-- ==== Sys2Proof/Word.lean ====
section
/-! DEFINITION. The word types of CGC (00_scope.md R7): one abbreviation per width the spec names. All values are
unsigned (00_scope.md section 6), so no signed operation is used anywhere in the model. -/

namespace Sys2Proof

/-- A `STEP` code, 4 bits (30_encoding.md R60). -/
abbrev Code := BitVec 4

/-- `PHASE`, `P`, `X0`..`X2`, `H` and `FINFO`: 10 bits (00_scope.md R7). -/
abbrev Phase := BitVec 10

/-- `S` and `V`: 7 bits, integer percent (00_scope.md R7). -/
abbrev Percent := BitVec 7

/-- `R`, `G`, `B`: 8 bits, 0 to 255 (00_scope.md R7). -/
abbrev Level := BitVec 8

/-- A duty width, `W0`..`W2` and `CH[0..3]`: 11 bits (00_scope.md R7). -/
abbrev Width := BitVec 11

/-- A channel id: 2 bits (00_scope.md R7). -/
abbrev ChannelId := BitVec 2

/-- The argument of `wait_ms`, and `DLY_MS`: 16 bits (00_scope.md R7). -/
abbrev Millis := BitVec 16

end Sys2Proof
end

