-- ==== Sys2Proof/Config.lean ====
section
/-! DEFINITION. What an implementation of CGC fixes (00_scope.md R6, "A model may make any of them a configuration
field") and the free values. `Config` is a type only: the values this machine runs with are
`Sys2Proof.Machine.referenceConfig` in Machine/Operands.lean, and R8's constraints are `Config.wf` in WellFormed.lean. -/

namespace Sys2Proof

/-- The three lanes of the scaler, one per used channel (41_duty_scaler.md R108). Channel 3 has no lane. -/
inductive Lane where
  | zero
  | one
  | two
deriving DecidableEq, Repr

/-- The three colours of an RGB triple. -/
inductive Colour where
  | red
  | green
  | blue
deriving DecidableEq, Repr

/-- The parameters of 00_scope.md R6. `SECTOR_DEG`, `N_SECTOR`, `RGB_MAX` and the converter's other constants are part
of its combinational logic (30_encoding.md R67) and stand in Machine/Converter.lean. -/
structure Config where
  /-- `MAX_DUTY`, the largest legal width and phase mode's range. -/
  maxDuty : Nat
  /-- `HUE_RANGE`, hue mode's range. -/
  hueRange : Nat
  /-- `SAT_FIXED`, percent. -/
  satFixed : Nat
  /-- `VAL_FIXED`, percent. -/
  valFixed : Nat
  /-- `WPCT[k]`, percent. -/
  wpct : Lane → Nat
  /-- `SCALE_DIV`. -/
  scaleDiv : Nat
  /-- `FRAME_MS`, milliseconds. -/
  frameMs : Nat
  /-- `CH_MAP`: the colour that feeds each lane (20_memory.md R47; decision D9, OPEN with a default). -/
  chMap : Lane → Colour
  /-- `WAVE`: phase to width; depends on the phase alone (41_duty_scaler.md R104; decision D11, OPEN with a default). -/
  wave : Nat → Nat

/-- The free values: what a working register holds after a reset action is unspecified (10_state.md R30,
93_implementation_defined.md U12). The n-th draw is this constant at n; nothing in Lean can evaluate it. Log entry 6. -/
opaque Config.unspecified : Nat → Nat

end Sys2Proof
end

