-- ==== Sys2Proof/Syntax.lean ====
section
/-! DEFINITION. The operations of the frame sequencer, one constructor per row of spec/opcode_table.json
(30_encoding.md R62), and the two pseudo-operations that name a frame (R73). -/

namespace Sys2Proof

/-- One `STEP` code's operation. The only operand field of the hardware, `SETD`'s `cc`, is part of the row
(30_encoding.md R60, R66), so no constructor has an argument. -/
inductive Instr where
  | idle
  | loadp
  | derivh
  | derivp
  | convert
  | scale
  | wave
  | reserved0111
  | setd0
  | setd1
  | setd2
  | reserved1011
  | advance
  | dlyreq
  | dlywait
  | halt
deriving DecidableEq, Repr

/-- The two formats of 30_encoding.md R60. -/
inductive Format where
  | f0
  | fc
deriving DecidableEq, Repr

/-- The format column of 30_encoding.md R62; the reserved `1011` lies in format FC ("would be SETD 3", R63). -/
def Instr.format : Instr → Format
  | .setd0 => .fc
  | .setd1 => .fc
  | .setd2 => .fc
  | .reserved1011 => .fc
  | .idle => .f0
  | .loadp => .f0
  | .derivh => .f0
  | .derivp => .f0
  | .convert => .f0
  | .scale => .f0
  | .wave => .f0
  | .reserved0111 => .f0
  | .advance => .f0
  | .dlyreq => .f0
  | .dlywait => .f0
  | .halt => .f0

/-- The lane that `SETD cc` writes out (30_encoding.md R66); no other operation has one. -/
def Instr.lane : Instr → Option Lane
  | .setd0 => some .zero
  | .setd1 => some .one
  | .setd2 => some .two
  | .idle => none
  | .loadp => none
  | .derivh => none
  | .derivp => none
  | .convert => none
  | .scale => none
  | .wave => none
  | .reserved0111 => none
  | .reserved1011 => none
  | .advance => none
  | .dlyreq => none
  | .dlywait => none
  | .halt => none

/-- The mnemonic as the spec's text and a trace line write it (30_encoding.md R62, R72). -/
def Instr.mnemonic : Instr → String
  | .idle => "IDLE"
  | .loadp => "LOADP"
  | .derivh => "DERIVH"
  | .derivp => "DERIVP"
  | .convert => "CONVERT"
  | .scale => "SCALE"
  | .wave => "WAVE"
  | .reserved0111 => "reserved"
  | .setd0 => "SETD 0"
  | .setd1 => "SETD 1"
  | .setd2 => "SETD 2"
  | .reserved1011 => "reserved"
  | .advance => "ADVANCE"
  | .dlyreq => "DLYREQ"
  | .dlywait => "DLYWAIT"
  | .halt => "HALT"

/-- `FRAME.H`, one frame in hue mode (30_encoding.md R73). -/
def frameHue : List Instr :=
  [.loadp, .derivh, .convert, .scale, .setd0, .setd1, .setd2, .advance, .dlyreq, .dlywait]

/-- `FRAME.P`, one frame in phase mode (30_encoding.md R73). -/
def framePhase : List Instr :=
  [.loadp, .derivp, .wave, .setd0, .setd1, .setd2, .advance, .dlyreq, .dlywait]

end Sys2Proof
end

