-- ==== Sys2Proof/WellFormed.lean ====
section
/-! DEFINITION. What is well formed: an operation that is no reserved code (30_encoding.md R62, R63), and a
configuration within 00_scope.md R8. A code that is not well formed still has its meaning (fault entry, R155). -/

namespace Sys2Proof

/-- The fourteen codes that carry an operation; the two reserved codes do not (30_encoding.md R62, R63). -/
def Instr.wf : Instr → Bool
  | .reserved0111 => false
  | .reserved1011 => false
  | .idle => true
  | .loadp => true
  | .derivh => true
  | .derivp => true
  | .convert => true
  | .scale => true
  | .wave => true
  | .setd0 => true
  | .setd1 => true
  | .setd2 => true
  | .advance => true
  | .dlyreq => true
  | .dlywait => true
  | .halt => true

/-- The constraints of 00_scope.md R8 on a configuration, and a divisor that divides. -/
def Config.wf (c : Config) : Bool :=
  c.satFixed ≤ 100 && c.valFixed ≤ 100
    && c.wpct .zero ≤ 255 && c.wpct .one ≤ 255 && c.wpct .two ≤ 255
    && c.hueRange == 360 && 3 ≤ c.maxDuty && c.maxDuty ≤ 1024
    && c.frameMs < 65536 && 0 < c.scaleDiv

end Sys2Proof
end

