-- ==== Sys2Proof/Decode.lean ====
section
/-! DEFINITION. The decoder of `STEP` codes (30_encoding.md R60 to R63), total on the 16 codes, and the encoder. `STEP`
is the code itself and no operation is fetched from a memory (R61), so there is no byte stream to decode; a number that
is no 4-bit code is rejected by name. -/

namespace Sys2Proof

/-- Why a number is no operation code. Raised by `decodeWord` alone; safe: the hardware's `STEP` cannot hold it. -/
inductive DecodeError where
  /-- The number needs more than the 4 bits of `STEP`. -/
  | widerThanStep
deriving DecidableEq, Repr

/-- The opcode map of 30_encoding.md R62, read bit by bit from `STEP[3]` down to `STEP[0]`. -/
def decode (c : Code) : Instr :=
  match c.getLsbD 3, c.getLsbD 2, c.getLsbD 1, c.getLsbD 0 with
  | false, false, false, false => .idle
  | false, false, false, true => .loadp
  | false, false, true, false => .derivh
  | false, false, true, true => .derivp
  | false, true, false, false => .convert
  | false, true, false, true => .scale
  | false, true, true, false => .wave
  | false, true, true, true => .reserved0111
  -- format FC: STEP[3:2] = 10, STEP[1:0] = cc
  | true, false, false, false => .setd0
  | true, false, false, true => .setd1
  | true, false, true, false => .setd2
  | true, false, true, true => .reserved1011
  | true, true, false, false => .advance
  | true, true, false, true => .dlyreq
  | true, true, true, false => .dlywait
  | true, true, true, true => .halt

/-- The code of each row of 30_encoding.md R62. -/
def encode : Instr → Code
  | .idle => 0b0000#4
  | .loadp => 0b0001#4
  | .derivh => 0b0010#4
  | .derivp => 0b0011#4
  | .convert => 0b0100#4
  | .scale => 0b0101#4
  | .wave => 0b0110#4
  | .reserved0111 => 0b0111#4
  | .setd0 => 0b1000#4
  | .setd1 => 0b1001#4
  | .setd2 => 0b1010#4
  | .reserved1011 => 0b1011#4
  | .advance => 0b1100#4
  | .dlyreq => 0b1101#4
  | .dlywait => 0b1110#4
  | .halt => 0b1111#4

/-- The operation a number names: a 4-bit code decodes, anything wider is rejected by name. -/
def decodeWord (w : Nat) : Except DecodeError Instr :=
  if w < 16 then .ok (decode (BitVec.ofNat 4 w)) else .error .widerThanStep

/-- The operation that the decoder reads from a table word of `nbits` bits, bit 0 the least significant. A word that does
not fit its own `nbits` bits is refused. -/
def decodeTableWord (nbits w : Nat) : Option Instr :=
  if w < 2 ^ nbits then
    match decodeWord w with
    | .ok i => some i
    | .error _ => none
  else none

end Sys2Proof
end

