-- ==== Sys2Proof/Machine/State.lean ====
section
/-! DEFINITION. The state of CGC (10_state.md R10) with the PWM sink's four channels, the record of what the platform
observed, and which agent moves next. Plain data throughout. -/

namespace Sys2Proof.Machine

/-- `MODE` (10_state.md R19): `0` hue mode, `1` phase mode (30_encoding.md R68). -/
inductive Mode where
  | hue
  | phase
deriving DecidableEq, Repr

/-- `CAUSE` (30_encoding.md R70, 60_exceptions.md R150). The codes 5, 6, 7, never written, have no constructor (log 12). -/
inductive Cause where
  | none
  | satRange
  | valRange
  | hueRange
  | illStep
deriving DecidableEq, Repr

/-- What the platform observes beside `STATUS` (00_scope.md glossary "Event"; 10_state.md R27). -/
inductive Event where
  | setDuty (channel : ChannelId) (width : Width)
  | waitMs (ms : Millis)
deriving DecidableEq, Repr

/-- One agent's turn to move (00_scope.md R5; 10_state.md R27). `sequencer`: the frame sequencer performs its operation.
`delayAgent`: the delay agent completes a wait (43_pwm_and_delay.md R139). `start m`: the platform performs `Start(m)`
(42_frame_sequencer.md R116). `reset`: the platform resets the core (70_reset_and_hazards.md R175). -/
inductive Turn where
  | sequencer
  | delayAgent
  | start (m : Mode)
  | reset
deriving DecidableEq, Repr

/-- The whole state. INVENTORY.md lists each field with its rule and its reset value. -/
structure State where
  /-- `STEP`, the program counter (10_state.md R15). -/
  stepReg : Code
  /-- `PHASE`, the one persistent counter (R18). -/
  phase : Phase
  /-- `MODE` (R19). -/
  mode : Mode
  /-- `FAULT`, sticky (R17). -/
  fault : Bool
  /-- `CAUSE` (R20). -/
  cause : Cause
  /-- `FINFO` (R20). -/
  finfo : BitVec 10
  /-- The working registers of R12. -/
  regP : Phase
  regH : Phase
  regS : Percent
  regV : Percent
  regR : Level
  regG : Level
  regB : Level
  regX0 : Phase
  regX1 : Phase
  regX2 : Phase
  regW0 : Width
  regW1 : Width
  regW2 : Width
  /-- `DLY_PENDING` (R25). -/
  dlyPending : Bool
  /-- `DLY_MS` (R25). -/
  dlyMs : Millis
  /-- The PWM sink's channels `CH[0..3]` (R24). -/
  ch0 : Width
  ch1 : Width
  ch2 : Width
  ch3 : Width
  /-- The model's own: every event emitted so far, newest first (20_memory.md R50 (c); log 9). -/
  events : List Event
  /-- The model's own: who moves next, first turn first; when empty, the sequencer (log 1). -/
  schedule : List Turn
  /-- The model's own: how many free values have been drawn (log 6). -/
  draws : Nat
deriving DecidableEq, Repr

/-- Why the machine stops. The hardware's own faults (60_exceptions.md R150) are no such stop: they are states with
`FAULT = 1`. -/
inductive Fault where
  /-- Raised by `HALT` alone, when the sequencer has the turn: "A model must treat a state with `STEP = HALT` as a fault
  outcome" (43_pwm_and_delay.md R140; log 3). Safe: the run stops where the hardware does nothing. -/
  | halted
deriving DecidableEq, Repr

/-- Why an instruction has no meaning in the model. -/
inductive Refusal where
  /-- Raised by a refused arm of `exec` alone. Safe. No arm raises it. -/
  | notModelled (mnemonic : String)
  /-- Raised by `SETD` alone, on a width above `MAX_DUTY`: "If a model lets the platform or a test inject one: `refuse`"
  (93_implementation_defined.md U7; 20_memory.md R46; log 11). Safe: the sink's behaviour there is not given, and no run
  from reset has such a width. -/
  | widthAboveMaxDuty
deriving DecidableEq, Repr

/-- What a step answers. -/
abbrev Result := Host.Outcome State Fault Refusal

/-- The machine right after reset: 10_state.md R29; working registers 0 by log 4, channels 0 by log 5. -/
def State.reset : State where
  stepReg := 0b0000#4
  phase := 0
  mode := .hue
  fault := false
  cause := .none
  finfo := 0
  regP := 0
  regH := 0
  regS := 0
  regV := 0
  regR := 0
  regG := 0
  regB := 0
  regX0 := 0
  regX1 := 0
  regX2 := 0
  regW0 := 0
  regW1 := 0
  regW2 := 0
  dlyPending := false
  dlyMs := 0
  ch0 := 0
  ch1 := 0
  ch2 := 0
  ch3 := 0
  events := []
  schedule := []
  draws := 0

end Sys2Proof.Machine
end

