-- ==== Sys2Proof/Machine/Operands.lean ====
section
/-! DEFINITION. Where an operation's operands come from: the parameter values of 00_scope.md R6, the hard-wired
constants (10_state.md R21, 30_encoding.md R67), the indexed registers `W[k]` and `X[k]`, the colours, the sink's
channels, the sector ROM's words and select codes (30_encoding.md R69), and the platform's `Start`. -/

namespace Sys2Proof.Machine

/-- The channel id of a lane: lane `k` is channel `k` (20_memory.md R47). -/
def laneChannel : Lane → ChannelId
  | .zero => 0
  | .one => 1
  | .two => 2

/-- The values of 00_scope.md R6, which R9 takes as this hardware's (log 8). `CH_MAP`: green, red, blue on channels
0, 1, 2 (20_memory.md R47). `WAVE`: the sawtooth (41_duty_scaler.md R104). -/
def referenceConfig : Config where
  maxDuty := 1024
  hueRange := 360
  satFixed := 80
  valFixed := 80
  wpct := fun
    | .zero => 50
    | .one => 100
    | .two => 50
  scaleDiv := 256
  frameMs := 5
  chMap := fun
    | .zero => .green
    | .one => .red
    | .two => .blue
  wave := fun x => x

/-- `SHIFT1` (00_scope.md R6). -/
def shift1 (c : Config) : Nat := c.maxDuty / 3

/-- `SHIFT2` (00_scope.md R6). -/
def shift2 (c : Config) : Nat := 2 * c.maxDuty / 3

/-- `WEIGHT[k]` (41_duty_scaler.md R100). -/
def weight (c : Config) (k : Lane) : Nat := c.maxDuty * c.wpct k / 100

/-- `RANGE(MODE)` (42_frame_sequencer.md R122). -/
def phaseRange (c : Config) : Mode → Nat
  | .hue => c.hueRange
  | .phase => c.maxDuty

/-- `CR3 = CONST`, the hard-wired constants at their register widths (10_state.md R21). -/
structure ConstReg where
  satFixed : Percent
  valFixed : Percent
  wpct0 : BitVec 8
  wpct1 : BitVec 8
  wpct2 : BitVec 8
  frameMs : Millis
  shift1 : Phase
  shift2 : Phase
deriving DecidableEq, Repr

/-- The content of `CR3` in a configuration (10_state.md R21). -/
def constReg (c : Config) : ConstReg where
  satFixed := BitVec.ofNat 7 c.satFixed
  valFixed := BitVec.ofNat 7 c.valFixed
  wpct0 := BitVec.ofNat 8 (c.wpct .zero)
  wpct1 := BitVec.ofNat 8 (c.wpct .one)
  wpct2 := BitVec.ofNat 8 (c.wpct .two)
  frameMs := BitVec.ofNat 16 c.frameMs
  shift1 := BitVec.ofNat 10 (shift1 c)
  shift2 := BitVec.ofNat 10 (shift2 c)

/-- `W[k]` (00_scope.md section 6). -/
def State.readW (s : State) : Lane → Width
  | .zero => s.regW0
  | .one => s.regW1
  | .two => s.regW2

/-- `X[k]` (00_scope.md section 6). -/
def State.readX (s : State) : Lane → Phase
  | .zero => s.regX0
  | .one => s.regX1
  | .two => s.regX2

/-- The register of a colour. -/
def State.readColour (s : State) : Colour → Level
  | .red => s.regR
  | .green => s.regG
  | .blue => s.regB

/-- `CH[c]`, what the sink holds on a channel (10_state.md R24). No operation reads it (20_memory.md R41). -/
def State.readCh (s : State) (c : ChannelId) : Width :=
  if c = 0 then s.ch0 else if c = 1 then s.ch1 else if c = 2 then s.ch2 else s.ch3

/-- The `Start(m)` the platform performs at this step, if it does (42_frame_sequencer.md R116). -/
def State.startInput (s : State) : Option Mode :=
  match s.schedule with
  | .start m :: _ => some m
  | _ => none

/-- The sector ROM (30_encoding.md R69): `rsel` in bits 5:4, `gsel` in 3:2, `bsel` in 1:0. The indices 6 and 7 never
reach it (40_color_converter.md R90). -/
def sectorRom : Fin 6 → BitVec 6
  | 0 => 0b001101#6
  | 1 => 0b100001#6
  | 2 => 0b010011#6
  | 3 => 0b011000#6
  | 4 => 0b110100#6
  | 5 => 0b000110#6

/-- The value a select code picks: `0 = v`, `1 = p`, `2 = q`, `3 = t` (30_encoding.md R69). -/
def pick {α : Type} (v p q t : α) (sel : BitVec 2) : α :=
  if sel = 0 then v else if sel = 1 then p else if sel = 2 then q else t

/-- The triple `(R, G, B)` that a sector selects (40_color_converter.md R87). -/
def selectRgb {α : Type} (dh : Fin 6) (v p q t : α) : α × α × α :=
  (pick v p q t ((sectorRom dh).extractLsb' 4 2),
   pick v p q t ((sectorRom dh).extractLsb' 2 2),
   pick v p q t ((sectorRom dh).extractLsb' 0 2))

end Sys2Proof.Machine
end

