-- ==== Sys2Proof/Machine/Flags.lean ====
section
/-! DEFINITION. The status of the machine: the codes of `MODE` and `CAUSE` (30_encoding.md R68, R70) and the 14-bit
`STATUS` word (10_state.md R20). The one flag is `FAULT` (R17); no operation computes any other. -/

namespace Sys2Proof.Machine

/-- The bit of a mode (30_encoding.md R68). -/
def Mode.code : Mode → BitVec 1
  | .hue => 0
  | .phase => 1

/-- The 3-bit cause code (30_encoding.md R70). -/
def Cause.code : Cause → BitVec 3
  | .none => 0
  | .satRange => 1
  | .valRange => 2
  | .hueRange => 3
  | .illStep => 4

/-- `CR2 = STATUS`: `FAULT` in bit 0, `CAUSE` in bits 3:1, `FINFO` in bits 13:4 (10_state.md R20). -/
def State.status (s : State) : BitVec 14 :=
  s.finfo ++ s.cause.code ++ BitVec.ofBool s.fault

end Sys2Proof.Machine
end

