-- ==== Sys2Proof/Machine/Ops.lean ====
section
/-! DEFINITION. The named operations that the meanings share: going to a successor, writing a channel, emitting an
event, fault entry, taking a turn off the schedule. There is no return from a fault (60_exceptions.md R157): the way
out is `resetAction` in Machine/Platform.lean. -/

namespace Sys2Proof.Machine

/-- `STEP <- ` the code of a successor (10_state.md R16). -/
def State.goto (s : State) (i : Instr) : State := { s with stepReg := encode i }

/-- An event becomes visible to the platform (00_scope.md glossary). -/
def State.emit (s : State) (e : Event) : State := { s with events := e :: s.events }

/-- `CH[c] <- w` in the sink (43_pwm_and_delay.md R136). -/
def State.writeCh (s : State) (c : ChannelId) (w : Width) : State :=
  if c = 0 then { s with ch0 := w }
  else if c = 1 then { s with ch1 := w }
  else if c = 2 then { s with ch2 := w }
  else { s with ch3 := w }

/-- The widths that the sink accepts, `w` in 0 to `MAX_DUTY` (43_pwm_and_delay.md R136). A larger one must never be written
(20_memory.md R46, 70_reset_and_hazards.md R182). -/
def sinkAccepts (c : Config) (w : Width) : Bool := w.toNat ≤ c.maxDuty

/-- `MemWrite(c, 11, w)`: the event `set_duty(c, w)` and `CH[c] <- w`, one action that cannot fail (20_memory.md R40).
`setd` performs it on widths that the sink accepts alone. -/
def State.memWrite (s : State) (c : ChannelId) (w : Width) : State :=
  (s.writeCh c w).emit (.setDuty c w)

/-- Fault entry, `raise Fault(cause, info)` (60_exceptions.md R156): four writes and nothing else. -/
def State.raiseFault (s : State) (cause : Cause) (info : BitVec 10) : State :=
  { s with fault := true, cause := cause, finfo := info, stepReg := encode .halt }

/-- The turn at the head of the schedule is over. -/
def State.popTurn (s : State) : State := { s with schedule := s.schedule.tail }

end Sys2Proof.Machine
end

