-- ==== Sys2Proof/Machine/Converter.lean ====
section
/-! DEFINITION. The ColorConverter (40_color_converter.md): the document's algorithm over the rationals (R81, R82), the
integer datapath (R84 to R90), and the operation `CONVERT` (R91). -/

namespace Sys2Proof.Machine

/-! ### The contract (R80 to R82) -/

/-- `rhaz(x) = floor(x + 1/2)`, for `x >= 0` (40_color_converter.md R82). -/
def rhaz (x : ℚ) : ℤ := ⌊x + 1 / 2⌋

/-- `EPS` (00_scope.md R6). -/
def eps : ℚ := 1 / 100000

/-- R81 steps 5 and 6: the triple of sector `dh` at fraction `f`, for `s` and `v` in the unit interval. -/
def sectorReal (dh : Fin 6) (s v f : ℚ) : ℚ × ℚ × ℚ :=
  selectRgb dh v (v * (1 - s)) (v * (1 - s * f)) (v * (1 - s * (1 - f)))

/-- `ConvertReal(h, s, v)` (R81), `none` outside the domain of R80, where the document gives no result. Hue in degrees,
saturation and value in percent, all rational (log 13). -/
def convertReal (h s v : ℚ) : Option (ℤ × ℤ × ℤ) :=
  if 0 ≤ s ∧ s ≤ 100 ∧ 0 ≤ v ∧ v ≤ 100 then
    let hn := if |h - 360| < eps then 0 else h
    if s / 100 < eps then
      some (rhaz (v / 100 * 255), rhaz (v / 100 * 255), rhaz (v / 100 * 255))
    else if hd : 0 ≤ ⌊hn / 60⌋ ∧ ⌊hn / 60⌋ < 6 then
      let rgb := sectorReal ⟨⌊hn / 60⌋.toNat, by omega⟩ (s / 100) (v / 100) (hn / 60 - ⌊hn / 60⌋)
      some (rhaz (255 * rgb.1), rhaz (255 * rgb.2.1), rhaz (255 * rgb.2.2))
    else none
  else none

/-! ### The integer datapath (R84 to R90) -/

/-- The numerator of `v255` (R86, R97). -/
def vNum (V : Nat) : Nat := 51 * V + 10

/-- The numerator of `p255` (R86, R97). -/
def pNum (S V : Nat) : Nat := 51 * V * (100 - S) + 1000

/-- The numerator of `q255` (R86, R97). -/
def qNum (S V f60 : Nat) : Nat := 17 * V * (6000 - S * f60) + 20000

/-- The numerator of `t255` (R86, R97). -/
def tNum (S V f60 : Nat) : Nat := 17 * V * (6000 - S * (60 - f60)) + 20000

/-- `v255` (R86). -/
def v255 (V : Nat) : Nat := vNum V / 20

/-- `p255` (R86). -/
def p255 (S V : Nat) : Nat := pNum S V / 2000

/-- `q255` (R86). -/
def q255 (S V f60 : Nat) : Nat := qNum S V f60 / 40000

/-- `t255` (R86). -/
def t255 (S V f60 : Nat) : Nat := tNum S V f60 / 40000

/-- The formula of one sector, with its selection (R86, R87). -/
def sectorRgb (dh : Fin 6) (S V f60 : Nat) : Nat × Nat × Nat :=
  selectRgb dh (v255 V) (p255 S V) (q255 S V f60) (t255 S V f60)

/-- What `Convert` returns: `Ok(R, G, B)` or `Err(cause, info)` (R90). -/
inductive ConvertResult where
  | ok (r g b : Level)
  | err (cause : Cause) (info : BitVec 10)
deriving DecidableEq, Repr

/-- The normalisation of the wrap point, `Hn` (R85, R81 step 1). -/
def normHue (H : Nat) : Nat := if H = 360 then 0 else H

/-- A triple of integers as the three 8-bit ports (R83, R88). -/
def okRgb (rgb : Nat × Nat × Nat) : ConvertResult :=
  .ok (BitVec.ofNat 8 rgb.1) (BitVec.ofNat 8 rgb.2.1) (BitVec.ofNat 8 rgb.2.2)

/-- `Convert(H, S, V)`, total on all port values (R90). The order of the checks is R90's. -/
def convert (h : Phase) (s v : Percent) : ConvertResult :=
  if 100 < s.toNat then .err .satRange (s.setWidth 10)
  else if 100 < v.toNat then .err .valRange (v.setWidth 10)
  else if s.toNat = 0 then okRgb (v255 v.toNat, v255 v.toNat, v255 v.toNat)
  else if hr : normHue h.toNat < 360 then
    okRgb (sectorRgb ⟨normHue h.toNat / 60, by omega⟩ s.toNat v.toNat (normHue h.toNat % 60))
  else .err .hueRange h

/-! ### The operation -/

/-- `CONVERT` (R91): on `Ok` the three results are written; on `Err` fault entry, with `R`, `G`, `B` kept. -/
def execConvert (s : State) : Result :=
  match convert s.regH s.regS s.regV with
  | .ok r g b => .next ({ s with regR := r, regG := g, regB := b }.goto .scale)
  | .err cause info => .next (s.raiseFault cause info)

end Sys2Proof.Machine
end

