-- ==== Sys2Proof/Machine/Scaler.lean ====
section
/-! DEFINITION. The duty scaler (41_duty_scaler.md): `SCALE` in hue mode, `WAVE` in phase mode. -/

namespace Sys2Proof.Machine

/-- The clamp of a computed width: it saturates at `MAX_DUTY` and never wraps (41_duty_scaler.md R102). -/
def clampWidth (c : Config) (w : Nat) : Width := BitVec.ofNat 11 (min w c.maxDuty)

/-- `Scale(c, wt) = min((wt * c) div SCALE_DIV, MAX_DUTY)` (41_duty_scaler.md R101). -/
def scaleLevel (c : Config) (x : Level) (wt : Nat) : Width := clampWidth c (wt * x.toNat / c.scaleDiv)

/-- The lane `k` of `SCALE`: its own colour, its own weight (41_duty_scaler.md R103, R108). -/
def scaleLane (c : Config) (s : State) (k : Lane) : Width := scaleLevel c (s.readColour (c.chMap k)) (weight c k)

/-- The lane `k` of `WAVE` (41_duty_scaler.md R105, R108). -/
def waveLane (c : Config) (s : State) (k : Lane) : Width := clampWidth c (c.wave (s.readX k).toNat)

/-- `SCALE` (41_duty_scaler.md R103). -/
def execScale (s : State) : Result :=
  .next ({ s with
    regW0 := scaleLane referenceConfig s .zero
    regW1 := scaleLane referenceConfig s .one
    regW2 := scaleLane referenceConfig s .two }.goto .setd0)

/-- `WAVE` (41_duty_scaler.md R105). -/
def execWave (s : State) : Result :=
  .next ({ s with
    regW0 := waveLane referenceConfig s .zero
    regW1 := waveLane referenceConfig s .one
    regW2 := waveLane referenceConfig s .two }.goto .setd0)

end Sys2Proof.Machine
end

