-- ==== Sys2Proof/Machine/Sequencer.lean ====
section
/-! DEFINITION. The frame sequencer's own operations (42_frame_sequencer.md): `IDLE`, `LOADP`, `DERIVH`, `DERIVP`,
`ADVANCE`. -/

namespace Sys2Proof.Machine

/-- `IDLE` (42_frame_sequencer.md R116): with `Start(m)`, latch the mode and enter the loop; without it the sequencer has
no step and nothing changes (log 2). -/
def execIdle (s : State) : Result :=
  match s.startInput with
  | some m => .next ({ s with mode := m }.goto .loadp)
  | none => .next s

/-- `LOADP` (42_frame_sequencer.md R117). -/
def execLoadp (s : State) : Result :=
  .next ({ s with regP := s.phase }.goto (match s.mode with | .hue => .derivh | .phase => .derivp))

/-- `DERIVH` (42_frame_sequencer.md R118): `H <- P`, the two fixed constants into `S` and `V`. -/
def execDerivh (s : State) : Result :=
  .next ({ s with
    regH := s.regP
    regS := (constReg referenceConfig).satFixed
    regV := (constReg referenceConfig).valFixed }.goto .convert)

/-- A phase shifted and reduced modulo `MAX_DUTY` (42_frame_sequencer.md R119). -/
def shiftPhase (c : Config) (p : Phase) (shift : Nat) : Phase :=
  BitVec.ofNat 10 ((p.toNat + shift) % c.maxDuty)

/-- `DERIVP` (42_frame_sequencer.md R119). -/
def execDerivp (s : State) : Result :=
  .next ({ s with
    regX0 := shiftPhase referenceConfig s.regP 0
    regX1 := shiftPhase referenceConfig s.regP (constReg referenceConfig).shift1.toNat
    regX2 := shiftPhase referenceConfig s.regP (constReg referenceConfig).shift2.toNat }.goto .wave)

/-- The counter's next value, `(PHASE + 1) mod RANGE(MODE)`, total on every `PHASE` (42_frame_sequencer.md R120). -/
def nextPhase (c : Config) (m : Mode) (p : Phase) : Phase :=
  BitVec.ofNat 10 ((p.toNat + 1) % phaseRange c m)

/-- `ADVANCE` (42_frame_sequencer.md R120). -/
def execAdvance (s : State) : Result :=
  .next ({ s with phase := nextPhase referenceConfig s.mode s.phase }.goto .dlyreq)

end Sys2Proof.Machine
end

