-- ==== Sys2Proof/Machine/Sink.lean ====
section
/-! DEFINITION. The stores to the PWM sink and the calls of the delay (43_pwm_and_delay.md): `SETD 0`, `SETD 1`,
`SETD 2`, `DLYREQ`, `DLYWAIT`. -/

namespace Sys2Proof.Machine

/-- `SETD cc` (43_pwm_and_delay.md R135): the whole `W[cc]` to channel `cc`. A width above `MAX_DUTY`, which no run from
reset has, is refused before anything is written or emitted (93_implementation_defined.md U7; 20_memory.md R46; log 11). -/
def setd (k : Lane) (succ : Instr) (s : State) : Result :=
  if sinkAccepts referenceConfig (s.readW k) then .next ((s.memWrite (laneChannel k) (s.readW k)).goto succ)
  else .refused .widthAboveMaxDuty

/-- `SETD 0` (43_pwm_and_delay.md R135). -/
def execSetd0 (s : State) : Result := setd .zero .setd1 s

/-- `SETD 1` (43_pwm_and_delay.md R135). -/
def execSetd1 (s : State) : Result := setd .one .setd2 s

/-- `SETD 2` (43_pwm_and_delay.md R135). -/
def execSetd2 (s : State) : Result := setd .two .advance s

/-- `DLYREQ` (43_pwm_and_delay.md R137). -/
def execDlyreq (s : State) : Result :=
  .next (({ s with dlyPending := true, dlyMs := (constReg referenceConfig).frameMs }.emit
    (.waitMs (constReg referenceConfig).frameMs)).goto .dlywait)

/-- `DLYWAIT` (43_pwm_and_delay.md R138): held, with nothing changed, while the delay is pending (log 2). -/
def execDlywait (s : State) : Result :=
  if s.dlyPending then .next s else .next (s.goto .loadp)

end Sys2Proof.Machine
end

