-- ==== Sys2Proof/Machine/System.lean ====
section
/-! DEFINITION. `HALT` (43_pwm_and_delay.md R140) and the two reserved codes (30_encoding.md R63, 60_exceptions.md
R155). -/

namespace Sys2Proof.Machine

/-- The record of `ILL_STEP`: the code that `STEP` held, `zext_10(STEP)` (60_exceptions.md R151). -/
def illStepInfo (i : Instr) : BitVec 10 := (encode i).setWidth 10

/-- The reserved code `0111`: `raise Fault(ILL_STEP, 7)` (60_exceptions.md R155). -/
def execReserved0111 (s : State) : Result := .next (s.raiseFault .illStep (illStepInfo .reserved0111))

/-- The reserved code `1011`: `raise Fault(ILL_STEP, 11)` (60_exceptions.md R155). -/
def execReserved1011 (s : State) : Result := .next (s.raiseFault .illStep (illStepInfo .reserved1011))

/-- `HALT` (43_pwm_and_delay.md R140): it has no step; a turn of the sequencer there is a fault outcome (log 3). -/
def execHalt (_s : State) : Result := .fault .halted

end Sys2Proof.Machine
end

