-- ==== Sys2Proof/Machine/Dispatch.lean ====
section
/-! DEFINITION. One arm per operation code (30_encoding.md R62). -/

namespace Sys2Proof.Machine

def exec (i : Instr) (s : State) : Host.Outcome State Fault Refusal :=
  match i with
  | .idle => Sys2Proof.Machine.execIdle s
  | .loadp => Sys2Proof.Machine.execLoadp s
  | .derivh => Sys2Proof.Machine.execDerivh s
  | .derivp => Sys2Proof.Machine.execDerivp s
  | .convert => Sys2Proof.Machine.execConvert s
  | .scale => Sys2Proof.Machine.execScale s
  | .wave => Sys2Proof.Machine.execWave s
  | .reserved0111 => Sys2Proof.Machine.execReserved0111 s
  | .setd0 => Sys2Proof.Machine.execSetd0 s
  | .setd1 => Sys2Proof.Machine.execSetd1 s
  | .setd2 => Sys2Proof.Machine.execSetd2 s
  | .reserved1011 => Sys2Proof.Machine.execReserved1011 s
  | .advance => Sys2Proof.Machine.execAdvance s
  | .dlyreq => Sys2Proof.Machine.execDlyreq s
  | .dlywait => Sys2Proof.Machine.execDlywait s
  | .halt => Sys2Proof.Machine.execHalt s

end Sys2Proof.Machine
end

