-- ==== Sys2Proof/Machine/Platform.lean ====
section
/-! DEFINITION. Who moves, and what each agent other than the sequencer does: the delay agent (43_pwm_and_delay.md
R139) and the platform's `Start` and `reset` (R141, 42_frame_sequencer.md R116, 70_reset_and_hazards.md R175). -/

namespace Sys2Proof.Machine

/-- The operation that `STEP` names (30_encoding.md R61). -/
def State.op (s : State) : Instr := decode s.stepReg

/-- The end of a turn: it is taken off the schedule of the next state. -/
def endTurn : Result → Result
  | .next s => .next s.popTurn
  | .fault f => .fault f
  | .refused r => .refused r

/-- The sequencer's turn: it executes the operation in `STEP` (30_encoding.md R61). -/
def sequencerTurn (s : State) : Result := endTurn (exec s.op s)

/-- The delay agent's step, enabled when `DLY_PENDING = 1` (43_pwm_and_delay.md R139). A `delay_done` with nothing
pending has no effect (70_reset_and_hazards.md R175; log 15). -/
def delayAgentStep (s : State) : State := if s.dlyPending then { s with dlyPending := false } else s

/-- The n-th free value from here, at a register's width (log 6). -/
def State.free (s : State) (w n : Nat) : BitVec w := BitVec.ofNat w (Config.unspecified (s.draws + n))

/-- `reset` (70_reset_and_hazards.md R175): the registers of 10_state.md R29 at their reset values, the thirteen working
registers at free values (R30; log 6), the sink's channels kept (R31; log 7). -/
def resetAction (s : State) : State :=
  { s with
    stepReg := encode .idle
    phase := 0
    mode := .hue
    fault := false
    cause := .none
    finfo := 0
    regP := s.free 10 0
    regH := s.free 10 1
    regS := s.free 7 2
    regV := s.free 7 3
    regR := s.free 8 4
    regG := s.free 8 5
    regB := s.free 8 6
    regX0 := s.free 10 7
    regX1 := s.free 10 8
    regX2 := s.free 10 9
    regW0 := s.free 11 10
    regW1 := s.free 11 11
    regW2 := s.free 11 12
    dlyPending := false
    dlyMs := 0
    draws := s.draws + 13 }

/-- `Start(m)`: consumed by `IDLE`; in any other operation it has no effect at all (42_frame_sequencer.md R116). -/
def startTurn (s : State) : Result :=
  if s.op = .idle then sequencerTurn s else .next s.popTurn

/-- The turn at the head of the schedule; the sequencer's when nothing is scheduled (log 1). `reset` wins over an
operation at the same moment (60_exceptions.md R154): on its turn no operation is executed (log 16). No turn writes the
sink's channel 3: 70_reset_and_hazards.md R184 leaves open what the platform does with it in a run, and the model's
choice is that it does nothing (log 19). -/
def takeTurn (s : State) : Result :=
  match s.schedule with
  | [] => sequencerTurn s
  | .sequencer :: _ => sequencerTurn s
  | .start _ :: _ => startTurn s
  | .delayAgent :: _ => .next (delayAgentStep s.popTurn)
  | .reset :: _ => .next (resetAction s.popTurn)

/-- An operation code is put into `STEP` and the sequencer given the next turn (log 10). -/
def State.placeCode (s : State) (w : Nat) : State :=
  { s with stepReg := BitVec.ofNat 4 w, schedule := .sequencer :: s.schedule }

end Sys2Proof.Machine
end

