-- ==== Sys2Proof/Machine/Step.lean ====
section
/-! DEFINITION. One step of the machine, and placing an operation to be executed next. -/

namespace Sys2Proof.Machine

/-- One step: the agent whose turn it is moves. -/
def step (s : State) : Host.Outcome State Fault Refusal := takeTurn s

/-- `s` with the operation code `w` where the sequencer takes its next operation from, the `STEP` register itself
(30_encoding.md R61), and the sequencer to move next. Bits of `w` above `STEP`'s four are dropped. Log 10. -/
def State.withFetchWord (s : State) (_nbits w : Nat) : State := s.placeCode w

end Sys2Proof.Machine
end

