-- ==== Sys2Proof/Safety.lean ====
section
/-! DEFINITION. The terms claims use: the invariant of runs without faults (10_state.md R28), the invariant of the
status fields, the live working registers (R13), repeated execution, and the schedule and events of one frame
(42_frame_sequencer.md R126). -/

namespace Sys2Proof.Machine

/-! ### Runs that never fault -/

/-- The operations of a frame that stand after `LOADP` and not after `ADVANCE`: there `P = PHASE` (10_state.md R28 (b)). -/
def afterLoad : List Instr :=
  [.derivh, .derivp, .convert, .scale, .wave, .setd0, .setd1, .setd2, .advance]

/-- The operations that only hue mode's producer has (42_frame_sequencer.md R127), entered from `LOADP`. -/
def hueProducer : List Instr := [.derivh, .convert, .scale]

/-- The operations that only phase mode's producer has (42_frame_sequencer.md R127). -/
def phaseProducer : List Instr := [.derivp, .wave]

/-- The operations of a frame that stand after `DERIVH` in hue mode. -/
def afterDerivh : List Instr := [.convert, .scale, .setd0, .setd1, .setd2, .advance, .dlyreq, .dlywait]

/-- The operations of a frame that stand after `SCALE` or `WAVE`. -/
def afterProducer : List Instr := [.setd0, .setd1, .setd2, .advance, .dlyreq, .dlywait]

/-- An event that the sink accepts from CGC: a used channel and a width of at most `MAX_DUTY` (10_state.md R28 (e)). -/
def Event.legal : Event → Prop
  | .setDuty c w => c ≠ 3 ∧ w.toNat ≤ 1024
  | .waitMs _ => True

/-- 10_state.md R28, with what makes it inductive: the mode that each producer runs in, phase 0 before `Start` (R29,
42_frame_sequencer.md R116), and the delay pending only in `DLYWAIT` (43_pwm_and_delay.md R137, R138). -/
structure Inv (s : State) : Prop where
  phase_lt : s.phase.toNat < phaseRange referenceConfig s.mode
  idle_phase : s.op = .idle → s.phase = 0
  phase_copied : s.op ∈ afterLoad → s.regP = s.phase
  hue_mode : s.op ∈ hueProducer → s.mode = .hue
  phase_mode : s.op ∈ phaseProducer → s.mode = .phase
  hue_operands : s.mode = .hue → s.op ∈ afterDerivh →
    s.regH = s.regP ∧ s.regH.toNat < 360 ∧ s.regS = 80 ∧ s.regV = 80
  widths_le : s.op ∈ afterProducer →
    s.regW0.toNat ≤ 1024 ∧ s.regW1.toNat ≤ 1024 ∧ s.regW2.toNat ≤ 1024
  events_legal : ∀ e ∈ s.events, e.legal
  no_fault : s.fault = false ∧ s.cause = .none ∧ s.finfo = 0
  op_legal : s.op ≠ .halt ∧ s.op ≠ .reserved0111 ∧ s.op ≠ .reserved1011
  delay_in_wait : s.dlyPending = true → s.op = .dlywait

/-- The status fields agree with each other (10_state.md R17, R20; 43_pwm_and_delay.md R140): no fault, no record and not
halted; or a fault, its cause, and halted. It holds of runs that fault, too. -/
def StatusInv (s : State) : Prop :=
  (s.fault = false ∧ s.cause = .none ∧ s.finfo = 0 ∧ s.op ≠ .halt) ∨
  (s.fault = true ∧ s.cause ≠ .none ∧ s.op = .halt)

/-! ### What a working register's reset content can influence -/

/-- Everything but the working registers, the free values' counter among them left out: what 10_state.md R10 lists beside
them, the sink, the events and the schedule. -/
def SameVisible (s t : State) : Prop :=
  s.stepReg = t.stepReg ∧ s.phase = t.phase ∧ s.mode = t.mode ∧
  s.fault = t.fault ∧ s.cause = t.cause ∧ s.finfo = t.finfo ∧
  s.dlyPending = t.dlyPending ∧ s.dlyMs = t.dlyMs ∧
  s.ch0 = t.ch0 ∧ s.ch1 = t.ch1 ∧ s.ch2 = t.ch2 ∧ s.ch3 = t.ch3 ∧
  s.events = t.events ∧ s.schedule = t.schedule

/-- Two states that differ at most in working registers not yet written in this frame (10_state.md R13): for each
operation, the registers that it or a later operation of the frame reads are equal. -/
structure AgreeOnLive (s t : State) : Prop where
  visible : SameVisible s t
  live_p : s.op ∈ [.derivh, .derivp] → s.regP = t.regP
  live_hsv : s.op = .convert → s.regH = t.regH ∧ s.regS = t.regS ∧ s.regV = t.regV
  live_rgb : s.op = .scale → s.regR = t.regR ∧ s.regG = t.regG ∧ s.regB = t.regB
  live_x : s.op = .wave → s.regX0 = t.regX0 ∧ s.regX1 = t.regX1 ∧ s.regX2 = t.regX2
  live_w0 : s.op = .setd0 → s.regW0 = t.regW0
  live_w1 : s.op ∈ [.setd0, .setd1] → s.regW1 = t.regW1
  live_w2 : s.op ∈ [.setd0, .setd1, .setd2] → s.regW2 = t.regW2

/-- Two outcomes that agree: both go on, in related states, or both stop for the same reason. -/
def OutcomesRelated (r : State → State → Prop) : Result → Result → Prop
  | .next s, .next t => r s t
  | .fault a, .fault b => a = b
  | .refused a, .refused b => a = b
  | _, _ => False

/-! ### The converter's table -/

/-- The table of 40_color_converter.md R87 as the spec prints it: `(R, G, B)` for a sector index of at most 5, from the
four values `v255`, `p255`, `q255`, `t255`. It does not go through the sector ROM. -/
def hexagonTable (dh v p q t : Nat) : Nat × Nat × Nat :=
  if dh = 0 then (v, t, p)
  else if dh = 1 then (q, v, p)
  else if dh = 2 then (p, v, t)
  else if dh = 3 then (p, q, v)
  else if dh = 4 then (t, p, v)
  else (v, p, q)

/-- Three numbers of at most 255 at the ports `R`, `G`, `B`, written into a state together with the successor's code. -/
def State.withRgb (s : State) (rgb : Nat × Nat × Nat) (succ : Code) : State :=
  { s with
    regR := BitVec.ofNat 8 rgb.1
    regG := BitVec.ofNat 8 rgb.2.1
    regB := BitVec.ofNat 8 rgb.2.2
    stepReg := succ }

/-! ### Repetition and frames -/

/-- One operation executed `n` times in a row, stopping at the first stop. -/
def execTimes (i : Instr) : Nat → State → Result
  | 0, s => .next s
  | n + 1, s =>
    match exec i s with
    | .next t => execTimes i n t
    | .fault f => .fault f
    | .refused r => .refused r

/-- `n` turns' steps of the machine. -/
def runSteps (n : Nat) (s : State) : Result := Host.Core.run Sys2Proof.core n s

/-- The turns of one frame from `LOADP`: the sequencer up to `DLYREQ`, the delay agent, the sequencer's `DLYWAIT`. -/
def frameTurns (ops : List Instr) : List Turn :=
  List.replicate (ops.length - 1) .sequencer ++ [.delayAgent, .sequencer]

/-- The turns of `n` frames. -/
def framesTurns (ops : List Instr) : Nat → List Turn
  | 0 => []
  | n + 1 => frameTurns ops ++ framesTurns ops n

/-- The four events of a frame with widths `w0`, `w1`, `w2`, in the order in which they are emitted
(42_frame_sequencer.md R126). -/
def frameEvents (w0 w1 w2 : Width) : List Event :=
  [.setDuty 0 w0, .setDuty 1 w1, .setDuty 2 w2, .waitMs 5]

/-- The events of one hue-mode frame at phase `p` (42_frame_sequencer.md R126), with the reference weights and channel
map: `W0 = Scale(G, 512)`, `W1 = Scale(R, 1024)`, `W2 = Scale(B, 512)` of `Convert(p, 80, 80)`. -/
def hueFrameEvents (p : Phase) : List Event :=
  match convert p 80 80 with
  | .ok r g b =>
    frameEvents (scaleLevel referenceConfig g 512) (scaleLevel referenceConfig r 1024) (scaleLevel referenceConfig b 512)
  | .err _ _ => []

/-- The events of one phase-mode frame at phase `p` (42_frame_sequencer.md R126), with the sawtooth. -/
def phaseFrameEvents (p : Nat) : List Event :=
  frameEvents (BitVec.ofNat 11 p) (BitVec.ofNat 11 ((p + 341) % 1024)) (BitVec.ofNat 11 ((p + 682) % 1024))

/-- The trace, oldest event first (20_memory.md R50 (c)). -/
def State.trace (s : State) : List Event := s.events.reverse

end Sys2Proof.Machine
end

