-- ==== Sys2Proof/Certificates/Slice0/Obligations.lean ====
section
/-! DEFINITION. The statements for the provers, in the order of OBLIGATIONS.json. A docstring names the rules of spec/
that a statement formalises; where a clause is the model's own choice it names the log entry. -/

open Sys2Proof Sys2Proof.Machine

/-! ### Encoding -/

/-- 30_encoding.md R62: the complete map of the 16 codes, which two are reserved, and the format of each. -/
def Obligations.OpcodeMapDecodes : Prop :=
  decode 0b0000#4 = .idle ∧ decode 0b0001#4 = .loadp ∧ decode 0b0010#4 = .derivh ∧ decode 0b0011#4 = .derivp ∧
  decode 0b0100#4 = .convert ∧ decode 0b0101#4 = .scale ∧ decode 0b0110#4 = .wave ∧ decode 0b0111#4 = .reserved0111 ∧
  decode 0b1000#4 = .setd0 ∧ decode 0b1001#4 = .setd1 ∧ decode 0b1010#4 = .setd2 ∧ decode 0b1011#4 = .reserved1011 ∧
  decode 0b1100#4 = .advance ∧ decode 0b1101#4 = .dlyreq ∧ decode 0b1110#4 = .dlywait ∧ decode 0b1111#4 = .halt ∧
  (∀ i : Instr, i.wf = false ↔ i = .reserved0111 ∨ i = .reserved1011) ∧
  (∀ i : Instr, i.format = .fc ↔ i = .setd0 ∨ i = .setd1 ∨ i = .setd2 ∨ i = .reserved1011)

/-- 30_encoding.md R60, R66: format FC is bits 3:2 = 10, and there bits 1:0 are the channel that `SETD` writes. -/
def Obligations.FormatFcCarriesTheChannel : Prop :=
  (∀ c : Code, (decode c).format = .fc ↔ c.extractLsb' 2 2 = 0b10#2) ∧
  (∀ (i : Instr) (k : Lane), i.lane = some k → i.format = .fc ∧ (encode i).extractLsb' 0 2 = laneChannel k)

/-- Decoder and encoder agree on every operation and every number: the decoder answers `i` on exactly one word, the code of
`i`, and refuses every other number; no bit of a code is dropped. 30_encoding.md R60 and R62 give the sixteen codes; that
numbers of 16 or more, and numbers that do not fit their own `nbits` bits, are refused is the model's choice (log 17). -/
def Obligations.DecodeAndEncodeAgree : Prop :=
  (∀ (nbits w : Nat) (i : Instr), decodeTableWord nbits w = some i ↔ w = (encode i).toNat ∧ w < 2 ^ nbits) ∧
  (∀ (c : Code) (i : Instr), decode c = i ↔ c = encode i)

/-- 30_encoding.md R61: on the sequencer's turn a step executes the operation that `STEP` names, and the turn is taken off
the schedule (log 1). `IDLE` also takes the turn of a `Start` (42_frame_sequencer.md R116). -/
def Obligations.StepExecutesTheOperationInStep : Prop :=
  ∀ (s : State) (i : Instr), decode s.stepReg = i →
    (s.schedule = [] ∨ (∃ l, s.schedule = .sequencer :: l) ∨ (i = .idle ∧ ∃ m l, s.schedule = .start m :: l)) →
    step s = match exec i s with
      | .next t => .next { t with schedule := t.schedule.tail }
      | .fault f => .fault f
      | .refused r => .refused r

/-- Log 10: after `withFetchWord` the very next step executes the placed code, in the state that differs from the given
one in `STEP` and in the turn put in front. -/
def Obligations.PlacedCodeIsExecutedNext : Prop :=
  ∀ (s : State) (nbits : Nat) (i : Instr),
    step (s.withFetchWord nbits (encode i).toNat) =
      match exec i { s with stepReg := encode i, schedule := .sequencer :: s.schedule } with
      | .next t => .next { t with schedule := t.schedule.tail }
      | .fault f => .fault f
      | .refused r => .refused r

/-! ### The sequencer's operations -/

/-- 42_frame_sequencer.md R116. That the sequencer without a `Start` answers the unchanged state is log 2. -/
def Obligations.IdleLatchesTheModeOnStart : Prop :=
  decode 0b0000#4 = .idle ∧
  (∀ (s : State) (m : Mode) (l : List Turn), s.schedule = .start m :: l →
    exec .idle s = .next { s with mode := m, stepReg := 0b0001#4 }) ∧
  (∀ s : State, (∀ m l, s.schedule ≠ .start m :: l) → exec .idle s = .next s)

/-- 42_frame_sequencer.md R116, 70_reset_and_hazards.md R179: a `Start` outside `IDLE` has no effect; only its turn is
over (log 1). -/
def Obligations.StartOutsideIdleHasNoEffect : Prop :=
  ∀ (s : State) (m : Mode) (l : List Turn), s.schedule = .start m :: l → s.stepReg ≠ 0b0000#4 →
    step s = .next { s with schedule := l }

/-- 42_frame_sequencer.md R117. -/
def Obligations.LoadpCopiesThePhase : Prop :=
  decode 0b0001#4 = .loadp ∧
  ∀ s : State, exec .loadp s =
    .next { s with regP := s.phase, stepReg := if s.mode = .hue then 0b0010#4 else 0b0011#4 }

/-- 42_frame_sequencer.md R118. -/
def Obligations.DerivhFeedsTheConverter : Prop :=
  decode 0b0010#4 = .derivh ∧
  ∀ s : State, exec .derivh s = .next { s with regH := s.regP, regS := 80, regV := 80, stepReg := 0b0100#4 }

/-- 42_frame_sequencer.md R119. -/
def Obligations.DerivpShiftsThePhase : Prop :=
  decode 0b0011#4 = .derivp ∧
  ∀ s : State, exec .derivp s = .next { s with
    regX0 := BitVec.ofNat 10 (s.regP.toNat % 1024)
    regX1 := BitVec.ofNat 10 ((s.regP.toNat + 341) % 1024)
    regX2 := BitVec.ofNat 10 ((s.regP.toNat + 682) % 1024)
    stepReg := 0b0110#4 }

/-- 42_frame_sequencer.md R120, R122: total on every `PHASE`, in range or not. -/
def Obligations.AdvanceIncrementsThePhase : Prop :=
  decode 0b1100#4 = .advance ∧
  ∀ s : State, exec .advance s = .next { s with
    phase := BitVec.ofNat 10 ((s.phase.toNat + 1) % (if s.mode = .hue then 360 else 1024))
    stepReg := 0b1101#4 }

/-! ### The converter -/

/-- 40_color_converter.md R92: gray at zero saturation, whatever the hue; the function and the operation (R91). -/
def Obligations.ConvertGrayAtZeroSaturation : Prop :=
  (∀ (h : Phase) (v : Percent), v.toNat ≤ 100 →
    convert h 0 v = .ok (BitVec.ofNat 8 ((51 * v.toNat + 10) / 20)) (BitVec.ofNat 8 ((51 * v.toNat + 10) / 20))
      (BitVec.ofNat 8 ((51 * v.toNat + 10) / 20))) ∧
  (∀ s : State, s.regS = 0 → s.regV.toNat ≤ 100 →
    exec .convert s = .next (s.withRgb ((51 * s.regV.toNat + 10) / 20, (51 * s.regV.toNat + 10) / 20,
      (51 * s.regV.toNat + 10) / 20) 0b0101#4))

/-- 40_color_converter.md R86, R87, R91: in the general case `CONVERT` writes the row of the hexagon table and goes to
`SCALE`. -/
def Obligations.ConvertWritesTheSectorsRow : Prop :=
  decode 0b0100#4 = .convert ∧
  ∀ (s : State) (hn : Nat), 1 ≤ s.regS.toNat → s.regS.toNat ≤ 100 → s.regV.toNat ≤ 100 → s.regH.toNat ≤ 360 →
    hn = (if s.regH.toNat = 360 then 0 else s.regH.toNat) →
    exec .convert s = .next (s.withRgb
      (hexagonTable (hn / 60)
        ((51 * s.regV.toNat + 10) / 20)
        ((51 * s.regV.toNat * (100 - s.regS.toNat) + 1000) / 2000)
        ((17 * s.regV.toNat * (6000 - s.regS.toNat * (hn % 60)) + 20000) / 40000)
        ((17 * s.regV.toNat * (6000 - s.regS.toNat * (60 - hn % 60)) + 20000) / 40000))
      0b0101#4)

/-- 40_color_converter.md R84, R89, with R91's fault entry: the three causes in their order, the value each records, and
nothing else changed. -/
def Obligations.ConvertFaultsOutsideItsDomain : Prop :=
  (∀ s : State, 100 < s.regS.toNat →
    exec .convert s = .next { s with
      fault := true, cause := .satRange, finfo := s.regS.setWidth 10, stepReg := 0b1111#4 }) ∧
  (∀ s : State, s.regS.toNat ≤ 100 → 100 < s.regV.toNat →
    exec .convert s = .next { s with
      fault := true, cause := .valRange, finfo := s.regV.setWidth 10, stepReg := 0b1111#4 }) ∧
  (∀ s : State, 1 ≤ s.regS.toNat → s.regS.toNat ≤ 100 → s.regV.toNat ≤ 100 → 361 ≤ s.regH.toNat →
    exec .convert s = .next { s with
      fault := true, cause := .hueRange, finfo := s.regH, stepReg := 0b1111#4 })

/-- 40_color_converter.md R90, the whole function on every port value. -/
def Obligations.ConvertFollowsThePseudocode : Prop :=
  ∀ (h : Phase) (s v : Percent) (hn : Nat) (rgb : Nat × Nat × Nat),
    hn = (if h.toNat = 360 then 0 else h.toNat) →
    rgb = hexagonTable (hn / 60) ((51 * v.toNat + 10) / 20)
      ((51 * v.toNat * (100 - s.toNat) + 1000) / 2000)
      ((17 * v.toNat * (6000 - s.toNat * (hn % 60)) + 20000) / 40000)
      ((17 * v.toNat * (6000 - s.toNat * (60 - hn % 60)) + 20000) / 40000) →
    convert h s v =
      if 100 < s.toNat then .err .satRange (s.setWidth 10)
      else if 100 < v.toNat then .err .valRange (v.setWidth 10)
      else if s.toNat = 0 then
        .ok (BitVec.ofNat 8 ((51 * v.toNat + 10) / 20)) (BitVec.ofNat 8 ((51 * v.toNat + 10) / 20))
          (BitVec.ofNat 8 ((51 * v.toNat + 10) / 20))
      else if 360 ≤ hn then .err .hueRange h
      else .ok (BitVec.ofNat 8 rgb.1) (BitVec.ofNat 8 rgb.2.1) (BitVec.ofNat 8 rgb.2.2)

/-- 40_color_converter.md R98: on its domain the integer datapath equals the document's algorithm over the rationals
(log 13), with no bit lost at the ports. -/
def Obligations.ConvertAgreesWithTheRealContract : Prop :=
  ∀ (h : Phase) (s v : Percent), h.toNat ≤ 360 → s.toNat ≤ 100 → v.toNat ≤ 100 →
    ∃ r g b : Level, convert h s v = .ok r g b ∧
      convertReal (h.toNat : ℚ) (s.toNat : ℚ) (v.toNat : ℚ) = some ((r.toNat : ℤ), (g.toNat : ℤ), (b.toNat : ℤ))

/-- 40_color_converter.md R93: the wrap point; no other pair of hues is identified by the normalisation; beyond 360, at a
saturation of at least 1, the result is the fault. -/
def Obligations.HueWrapsAt360Only : Prop :=
  (∀ s v : Percent, convert 360 s v = convert 0 s v) ∧
  (∀ h k : Phase, normHue h.toNat = normHue k.toNat → h = k ∨ (h = 0 ∧ k = 360) ∨ (h = 360 ∧ k = 0)) ∧
  (∀ (h : Phase) (s v : Percent), 361 ≤ h.toNat → 1 ≤ s.toNat → s.toNat ≤ 100 → v.toNat ≤ 100 →
    convert h s v = .err .hueRange h)

/-- 40_color_converter.md R94: the formulas of two neighbouring sectors agree at their common boundary, before and after
rounding. -/
def Obligations.SectorsAgreeAtTheirBoundary : Prop :=
  (∀ (dh : Fin 6) (s v : ℚ), sectorReal (dh + 1) s v 0 = sectorReal dh s v 1) ∧
  (∀ (dh : Fin 6) (S V : Nat), S ≤ 100 → V ≤ 100 → sectorRgb (dh + 1) S V 0 = sectorRgb dh S V 60)

/-- 40_color_converter.md R88: no clamp is needed. -/
def Obligations.SectorValuesAreOrdered : Prop :=
  ∀ S V f60 : Nat, S ≤ 100 → V ≤ 100 → f60 < 60 →
    p255 S V ≤ q255 S V f60 ∧ p255 S V ≤ t255 S V f60 ∧ q255 S V f60 ≤ v255 V ∧ t255 S V f60 ≤ v255 V ∧ v255 V ≤ 255

/-- 40_color_converter.md R97: the largest intermediate values; a datapath of 24 bits computes exactly. -/
def Obligations.DatapathFitsItsWidths : Prop :=
  ∀ S V f60 : Nat, 1 ≤ S → S ≤ 100 → V ≤ 100 → f60 < 60 →
    vNum V ≤ 5110 ∧ pNum S V ≤ 505900 ∧ qNum S V f60 ≤ 10220000 ∧ tNum S V f60 ≤ 10220000 ∧
    vNum V < 2 ^ 13 ∧ pNum S V < 2 ^ 19 ∧ qNum S V f60 < 2 ^ 24 ∧ tNum S V f60 < 2 ^ 24

/-- 41_duty_scaler.md R106: what the converter answers at the sequencer's operating point. -/
def Obligations.HueModeLevelsLieBetween41And204 : Prop :=
  ∀ h : Phase, h.toNat < 360 → ∃ r g b : Level, convert h 80 80 = .ok r g b ∧
    41 ≤ r.toNat ∧ r.toNat ≤ 204 ∧ 41 ≤ g.toNat ∧ g.toNat ≤ 204 ∧ 41 ≤ b.toNat ∧ b.toNat ≤ 204

/-- 30_encoding.md R69: the words of the sector ROM, their layout, the select codes, and the document's triples that they
select; an index that reaches the ROM is at most 5. -/
def Obligations.SectorRomSelectsTheTriples : Prop :=
  sectorRom 0 = 13#6 ∧ sectorRom 1 = 33#6 ∧ sectorRom 2 = 19#6 ∧ sectorRom 3 = 24#6 ∧ sectorRom 4 = 52#6 ∧ sectorRom 5 = 6#6 ∧
  (∀ H : Nat, normHue H < 360 → normHue H / 60 ≤ 5) ∧
  ∀ v p q t : Nat,
    pick v p q t 0 = v ∧ pick v p q t 1 = p ∧ pick v p q t 2 = q ∧ pick v p q t 3 = t ∧
    (∀ dh : Fin 6, selectRgb dh v p q t =
      (pick v p q t ((sectorRom dh).extractLsb' 4 2), pick v p q t ((sectorRom dh).extractLsb' 2 2),
        pick v p q t ((sectorRom dh).extractLsb' 0 2))) ∧
    selectRgb 0 v p q t = (v, t, p) ∧ selectRgb 1 v p q t = (q, v, p) ∧ selectRgb 2 v p q t = (p, v, t) ∧
    selectRgb 3 v p q t = (p, q, v) ∧ selectRgb 4 v p q t = (t, p, v) ∧ selectRgb 5 v p q t = (v, p, q)

/-! ### The scaler -/

/-- 41_duty_scaler.md R103. -/
def Obligations.ScaleWeightsTheColours : Prop :=
  decode 0b0101#4 = .scale ∧
  ∀ s : State, exec .scale s = .next { s with
    regW0 := BitVec.ofNat 11 (2 * s.regG.toNat)
    regW1 := BitVec.ofNat 11 (4 * s.regR.toNat)
    regW2 := BitVec.ofNat 11 (2 * s.regB.toNat)
    stepReg := 0b1000#4 }

/-- 41_duty_scaler.md R105, with the sawtooth of R104; and, for every configuration and waveform, the clamp. -/
def Obligations.WaveWritesTheWaveform : Prop :=
  decode 0b0110#4 = .wave ∧
  (∀ s : State, exec .wave s = .next { s with
    regW0 := s.regX0.setWidth 11
    regW1 := s.regX1.setWidth 11
    regW2 := s.regX2.setWidth 11
    stepReg := 0b1000#4 }) ∧
  (∀ (c : Config) (s : State) (k : Lane), c.wf = true →
    (waveLane c s k).toNat = min (c.wave (s.readX k).toNat) c.maxDuty)

/-- 41_duty_scaler.md R101, R100, R102, for every configuration: the scaled width saturates at `MAX_DUTY`, and with a weight of
at most 100 % the clamp never acts (R102, which the spec derives from R100 and R101); at the reference weights the scaling
is exact. -/
def Obligations.ScaleSaturatesAtMaxDuty : Prop :=
  (∀ (c : Config) (x : Level) (wt : Nat), c.wf = true → c.scaleDiv = 256 →
    (scaleLevel c x wt).toNat = min (wt * x.toNat / 256) c.maxDuty) ∧
  (∀ (c : Config) (x : Level) (k : Lane), c.wf = true → c.scaleDiv = 256 → c.wpct k ≤ 100 →
    (scaleLevel c x (weight c k)).toNat = weight c k * x.toNat / 256 ∧ weight c k * x.toNat / 256 < c.maxDuty) ∧
  (∀ x : Level, (scaleLevel referenceConfig x 512).toNat = 2 * x.toNat ∧
    (scaleLevel referenceConfig x 1024).toNat = 4 * x.toNat)

/-- 41_duty_scaler.md R106, first sentence, for every configuration. -/
def Obligations.LaneOutputsStayInRange : Prop :=
  ∀ (c : Config) (s : State) (k : Lane), c.wf = true → c.scaleDiv = 256 →
    (scaleLane c s k).toNat ≤ min (weight c k) c.maxDuty ∧ (waveLane c s k).toNat ≤ c.maxDuty

/-- 10_state.md R21, 41_duty_scaler.md R100: the hard-wired constants and the weights derived from them. -/
def Obligations.HardWiredConstants : Prop :=
  constReg referenceConfig = ⟨80, 80, 50, 100, 50, 5, 341, 682⟩ ∧
  weight referenceConfig .zero = 512 ∧ weight referenceConfig .one = 1024 ∧ weight referenceConfig .two = 512 ∧
  (∀ (c : Config) (k : Lane), weight c k = c.maxDuty * c.wpct k / 100)

/-! ### The stores, the delay, the stops -/

/-- 43_pwm_and_delay.md R135, on the widths that the sink accepts (R136). A width above `MAX_DUTY` is refused, with nothing
written or emitted: 93_implementation_defined.md U7, 20_memory.md R46; that the refusal stands at `SETD` is the model's
reading (log 11). -/
def Obligations.SetdStoresTheWidth : Prop :=
  decode 0b1000#4 = .setd0 ∧ decode 0b1001#4 = .setd1 ∧ decode 0b1010#4 = .setd2 ∧
  (∀ s : State, s.regW0.toNat ≤ 1024 → exec .setd0 s = .next { s with
    ch0 := s.regW0, events := .setDuty 0 s.regW0 :: s.events, stepReg := 0b1001#4 }) ∧
  (∀ s : State, s.regW1.toNat ≤ 1024 → exec .setd1 s = .next { s with
    ch1 := s.regW1, events := .setDuty 1 s.regW1 :: s.events, stepReg := 0b1010#4 }) ∧
  (∀ s : State, s.regW2.toNat ≤ 1024 → exec .setd2 s = .next { s with
    ch2 := s.regW2, events := .setDuty 2 s.regW2 :: s.events, stepReg := 0b1100#4 }) ∧
  (∀ (s : State) (i : Instr) (k : Lane), i.lane = some k → 1024 < (s.readW k).toNat →
    exec i s = .refused .widthAboveMaxDuty)

/-- 20_memory.md R40: one action, the event and the one channel; every other channel and everything else stays. -/
def Obligations.MemWriteIsOneActionOnOneChannel : Prop :=
  ∀ (s : State) (c : ChannelId) (w : Width),
    s.memWrite c w = { s with
      ch0 := if c = 0 then w else s.ch0
      ch1 := if c = 1 then w else s.ch1
      ch2 := if c = 2 then w else s.ch2
      ch3 := if c = 3 then w else s.ch3
      events := .setDuty c w :: s.events } ∧
    ∀ d : ChannelId, (s.memWrite c w).readCh d = if d = c then w else s.readCh d

/-- 43_pwm_and_delay.md R137. -/
def Obligations.DlyreqAsksForTheFrameDelay : Prop :=
  decode 0b1101#4 = .dlyreq ∧
  ∀ s : State, exec .dlyreq s = .next { s with
    dlyPending := true, dlyMs := 5, events := .waitMs 5 :: s.events, stepReg := 0b1110#4 }

/-- 43_pwm_and_delay.md R138. That the hold answers the unchanged state is log 2. -/
def Obligations.DlywaitHoldsWhilePending : Prop :=
  decode 0b1110#4 = .dlywait ∧
  (∀ s : State, s.dlyPending = false → exec .dlywait s = .next { s with stepReg := 0b0001#4 }) ∧
  (∀ s : State, s.dlyPending = true → exec .dlywait s = .next s)

/-- 43_pwm_and_delay.md R140: `HALT` has no step; the sequencer's turn there is a fault outcome (log 3). -/
def Obligations.HaltIsAFaultOutcome : Prop :=
  decode 0b1111#4 = .halt ∧ ∀ s : State, exec .halt s = .fault .halted

/-- 60_exceptions.md R155, 30_encoding.md R63: the reserved codes raise `ILL_STEP` with the code as its record, and no
other state changes. -/
def Obligations.ReservedCodesRaiseIllStep : Prop :=
  decode 0b0111#4 = .reserved0111 ∧ decode 0b1011#4 = .reserved1011 ∧
  (∀ s : State, exec .reserved0111 s = .next { s with
    fault := true, cause := .illStep, finfo := 7, stepReg := 0b1111#4 }) ∧
  (∀ s : State, exec .reserved1011 s = .next { s with
    fault := true, cause := .illStep, finfo := 11, stepReg := 0b1111#4 }) ∧
  (∀ s : State, (s.stepReg = 0b0111#4 ∨ s.stepReg = 0b1011#4) →
    exec (decode s.stepReg) s = .next { s with
      fault := true, cause := .illStep, finfo := s.stepReg.setWidth 10, stepReg := 0b1111#4 })

/-! ### Faults and status -/

/-- 60_exceptions.md R156, R150: whichever operation sets `FAULT` from 0, it has made the four writes of fault entry and no
other, and only `CONVERT` and the reserved codes do it. -/
def Obligations.FaultEntryMakesFourWrites : Prop :=
  (∀ (s : State) (c : Cause) (info : BitVec 10), s.raiseFault c info =
    { s with fault := true, cause := c, finfo := info, stepReg := 0b1111#4 }) ∧
  (∀ (i : Instr) (s t : State), exec i s = .next t → s.fault = false → t.fault = true →
    (i = .convert ∨ i = .reserved0111 ∨ i = .reserved1011) ∧
    t = { s with fault := true, cause := t.cause, finfo := t.finfo, stepReg := 0b1111#4 } ∧ t.cause ≠ .none)

/-- 10_state.md R20, 30_encoding.md R70: the fields of `STATUS`. -/
def Obligations.StatusWordLayout : Prop :=
  ∀ s : State,
    s.status.extractLsb' 0 1 = BitVec.ofBool s.fault ∧
    s.status.extractLsb' 1 3 = s.cause.code ∧
    s.status.extractLsb' 4 10 = s.finfo ∧
    Cause.none.code = 0#3 ∧ Cause.satRange.code = 1#3 ∧ Cause.valRange.code = 2#3 ∧ Cause.hueRange.code = 3#3 ∧
    Cause.illStep.code = 4#3

/-- 10_state.md R17: `FAULT` is sticky; fault entry alone sets it, reset alone clears it. -/
def Obligations.FaultIsStickyUntilReset : Prop :=
  ∀ s t : State, step s = .next t →
    (s.fault = true → t.fault = false → ∃ l, s.schedule = .reset :: l) ∧
    (s.fault = false → t.fault = true → t.op = .halt ∧
      (s.op = .convert ∨ s.op = .reserved0111 ∨ s.op = .reserved1011))

/-- 43_pwm_and_delay.md R140, 60_exceptions.md R157: nothing but reset leaves `HALT`, and in it nothing is written to the
sink and nothing emitted. On the reset turn itself the channels stay because reset does not write them
(70_reset_and_hazards.md R175, 10_state.md R31; that the platform does not write them either is the model's choice, log 7),
and the record of events stays by the model's choice (log 9); that no turn writes channel 3 is log 19. -/
def Obligations.OnlyResetLeavesHalt : Prop :=
  ∀ s t : State, s.op = .halt → step s = .next t →
    (t.op ≠ .halt → ∃ l, s.schedule = .reset :: l) ∧
    (∀ c : ChannelId, t.readCh c = s.readCh c) ∧ t.events = s.events

/-- 60_exceptions.md R150, last paragraph, 43_pwm_and_delay.md R140, 93_implementation_defined.md U7: every step goes on,
save the sequencer's turn in `HALT` (log 3) and at a `SETD` of a width above `MAX_DUTY` (log 11). Nothing else is refused. -/
def Obligations.OnlyHaltAndIllegalWidthsStop : Prop :=
  ∀ s : State,
    (∃ t, step s = .next t) ∨
    ((s.schedule = [] ∨ ∃ l, s.schedule = .sequencer :: l) ∧
      ((s.op = .halt ∧ step s = .fault .halted) ∨
       (∃ k, s.op.lane = some k ∧ 1024 < (s.readW k).toNat ∧ step s = .refused .widthAboveMaxDuty)))

/-! ### Frames: what an operation leaves unchanged -/

/-- 10_state.md R12, the column "written by": a working register is written by its named operations alone. -/
def Obligations.WorkingRegistersHaveTheirWriters : Prop :=
  ∀ (i : Instr) (s t : State), exec i s = .next t →
    (i ≠ .loadp → t.regP = s.regP) ∧
    (i ≠ .derivh → t.regH = s.regH ∧ t.regS = s.regS ∧ t.regV = s.regV) ∧
    (i ≠ .convert → t.regR = s.regR ∧ t.regG = s.regG ∧ t.regB = s.regB) ∧
    (i ≠ .derivp → t.regX0 = s.regX0 ∧ t.regX1 = s.regX1 ∧ t.regX2 = s.regX2) ∧
    (i ≠ .scale → i ≠ .wave → t.regW0 = s.regW0 ∧ t.regW1 = s.regW1 ∧ t.regW2 = s.regW2)

/-- 10_state.md R18, R19, R17, R25: who writes the counter, the mode, the status and the delay's registers; and the
model's own schedule and free-value counter are left alone by every operation (log 1, log 6). -/
def Obligations.SpecialRegistersHaveTheirWriters : Prop :=
  ∀ (i : Instr) (s t : State), exec i s = .next t →
    (i ≠ .advance → t.phase = s.phase) ∧
    (i ≠ .idle → t.mode = s.mode) ∧
    (i ≠ .convert → i ≠ .reserved0111 → i ≠ .reserved1011 →
      t.fault = s.fault ∧ t.cause = s.cause ∧ t.finfo = s.finfo) ∧
    (i ≠ .dlyreq → t.dlyPending = s.dlyPending ∧ t.dlyMs = s.dlyMs) ∧
    t.schedule = s.schedule ∧ t.draws = s.draws

/-- 20_memory.md R40, R44, 43_pwm_and_delay.md R143: `SETD` stores to the channel its field names and to no other, and no
other operation stores; events come from `SETD` and `DLYREQ` alone. -/
def Obligations.OnlySetdStores : Prop :=
  ∀ (i : Instr) (s t : State), exec i s = .next t →
    (∀ k : Lane, i.lane = some k →
      t.readCh (laneChannel k) = s.readW k ∧
      (∀ c : ChannelId, c ≠ laneChannel k → t.readCh c = s.readCh c) ∧
      t.events = .setDuty (laneChannel k) (s.readW k) :: s.events) ∧
    (i.lane = none → (∀ c : ChannelId, t.readCh c = s.readCh c) ∧ (i ≠ .dlyreq → t.events = s.events))

/-- 42_frame_sequencer.md R121, row by row; a row "no step" is the unchanged `STEP` (log 2) or, for `HALT`, no next state
(log 3). -/
def Obligations.SuccessorsFollowTheTable : Prop :=
  ∀ s t : State, exec s.op s = .next t →
    match s.op with
    | .idle => t.op = if s.startInput.isSome then .loadp else .idle
    | .loadp => t.op = if s.mode = .hue then .derivh else .derivp
    | .derivh => t.op = .convert
    | .derivp => t.op = .wave
    | .convert =>
      (∀ r g b, convert s.regH s.regS s.regV = .ok r g b → t.op = .scale) ∧
      (∀ c info, convert s.regH s.regS s.regV = .err c info → t.op = .halt)
    | .scale => t.op = .setd0
    | .wave => t.op = .setd0
    | .reserved0111 => t.op = .halt
    | .setd0 => t.op = .setd1
    | .setd1 => t.op = .setd2
    | .setd2 => t.op = .advance
    | .reserved1011 => t.op = .halt
    | .advance => t.op = .dlyreq
    | .dlyreq => t.op = .dlywait
    | .dlywait => t.op = if s.dlyPending then .dlywait else .loadp
    | .halt => False

/-! ### The platform and the delay agent -/

/-- 10_state.md R29: the reset values of the registers whose reset content can be observed. -/
def Obligations.ResetValues : Prop :=
  State.reset.stepReg = 0b0000#4 ∧ State.reset.op = .idle ∧ State.reset.phase = 0 ∧ State.reset.mode = .hue ∧
  State.reset.fault = false ∧ State.reset.cause = .none ∧ State.reset.finfo = 0 ∧
  State.reset.dlyPending = false ∧ State.reset.dlyMs = 0

/-- 70_reset_and_hazards.md R175: reset in any state, with or without a wait in flight. Nothing is said of the working
registers, which it leaves unspecified. That the channels stay is also log 7; that the record of
events stays is log 9. -/
def Obligations.ResetTurnRestoresTheResetValues : Prop :=
  ∀ (s : State) (l : List Turn), s.schedule = .reset :: l →
    ∃ t, step s = .next t ∧ t.stepReg = 0b0000#4 ∧ t.phase = 0 ∧ t.mode = .hue ∧
      t.fault = false ∧ t.cause = .none ∧ t.finfo = 0 ∧ t.dlyPending = false ∧ t.dlyMs = 0 ∧
      (∀ c : ChannelId, t.readCh c = s.readCh c) ∧ t.events = s.events ∧ t.schedule = l

/-- 43_pwm_and_delay.md R139, 70_reset_and_hazards.md R175: the delay agent ends a pending wait and does nothing else; with
nothing pending it has no effect (log 15). -/
def Obligations.DelayAgentEndsThePendingWait : Prop :=
  ∀ (s : State) (l : List Turn), s.schedule = .delayAgent :: l →
    (s.dlyPending = true → step s = .next { s with dlyPending := false, schedule := l }) ∧
    (s.dlyPending = false → step s = .next { s with schedule := l })

/-- 43_pwm_and_delay.md R138, 10_state.md R25: the wait cannot be cancelled; the delay agent or reset ends it, and until
then the sequencer is held. -/
def Obligations.OnlyDelayAgentOrResetEndsTheWait : Prop :=
  ∀ s t : State, s.dlyPending = true → step s = .next t →
    (t.dlyPending = false → ∃ l, s.schedule = .delayAgent :: l ∨ s.schedule = .reset :: l) ∧
    (s.op = .dlywait → t.op ≠ .dlywait → ∃ l, s.schedule = .reset :: l)

/-- 10_state.md R18, R19, 70_reset_and_hazards.md R179: over a whole step, the mode changes only by the one `Start` or by
reset, and the counter only by `ADVANCE` or by reset. -/
def Obligations.ModeAndPhaseAreOwnedByTheLoop : Prop :=
  ∀ s t : State, step s = .next t →
    (t.mode ≠ s.mode → (∃ l, s.schedule = .reset :: l) ∨
      (s.op = .idle ∧ ∃ m l, s.schedule = .start m :: l ∧ t.mode = m)) ∧
    (t.phase ≠ s.phase → (∃ l, s.schedule = .reset :: l) ∨ s.op = .advance)

/-- 20_memory.md R50, 10_state.md R24, R31, 43_pwm_and_delay.md R136: over a whole step of any agent of the model, a channel
changes only by the `SETD` of its lane, channel 3 never, and the trace grows by at most the one event of the operation
executed. Over a reset turn this rests on log 7; that the platform leaves channel 3 alone in a run, which
70_reset_and_hazards.md R184 does not say, is the model's choice (log 19). -/
def Obligations.SinkHasOneWriter : Prop :=
  ∀ s t : State, step s = .next t →
    t.ch3 = s.ch3 ∧
    (∀ c : ChannelId, t.readCh c ≠ s.readCh c →
      ∃ k, s.op.lane = some k ∧ c = laneChannel k ∧ t.readCh c = s.readW k) ∧
    (t.events = s.events ∨
      (∃ k, s.op.lane = some k ∧ t.events = .setDuty (laneChannel k) (s.readW k) :: s.events) ∨
      (s.op = .dlyreq ∧ t.events = .waitMs 5 :: s.events))

/-! ### Invariants -/

/-- The state after reset meets both invariants, whatever the schedule of the run. -/
def Obligations.ResetMeetsTheInvariants : Prop :=
  ∀ l : List Turn, Inv { State.reset with schedule := l } ∧ StatusInv { State.reset with schedule := l }

/-- 10_state.md R28, 60_exceptions.md R152: from every state that meets the invariant, every agent's step goes on and keeps
it; so no run from reset ever faults, stops or is refused. -/
def Obligations.StepKeepsTheFaultFreeInvariant : Prop :=
  ∀ s : State, Inv s → ∃ t, step s = .next t ∧ Inv t

/-- 10_state.md R17, R20: every step keeps the status fields in agreement, in runs that fault as well. -/
def Obligations.StepKeepsTheStatusInvariant : Prop :=
  ∀ s t : State, StatusInv s → step s = .next t → StatusInv t

/-! ### The reset content of the working registers -/

/-- 10_state.md R13, one step: two states that agree on all but dead working registers have steps that agree again. -/
def Obligations.StepKeepsAgreementOnLiveRegisters : Prop :=
  ∀ s t : State, AgreeOnLive s t → OutcomesRelated AgreeOnLive (step s) (step t)

/-- 10_state.md R13: "the reset content of a working register ... is never observable". From `IDLE` or from any place of
the loop where no working register is live, two states that differ in working registers alone give the same visible
states for any number of steps. So no statement rests on the values of log 4 or on the free values of log 6. -/
def Obligations.WorkingRegisterContentIsNeverObserved : Prop :=
  ∀ (n : Nat) (s t : State), SameVisible s t → s.op ∈ [Instr.idle, .loadp, .advance, .dlyreq, .dlywait, .halt] →
    OutcomesRelated SameVisible (runSteps n s) (runSteps n t)

/-! ### The loop -/

/-- 42_frame_sequencer.md R123: after `n` executions of `ADVANCE` the counter stands `n` further modulo its range, it is
back after exactly one range, and each value of the range is taken exactly once on the way. -/
def Obligations.PhaseCounterWraps : Prop :=
  ∀ s : State, s.phase.toNat < phaseRange referenceConfig s.mode →
    (∀ n, ∃ t, execTimes .advance n s = .next t ∧
      t.phase.toNat = (s.phase.toNat + n) % phaseRange referenceConfig s.mode) ∧
    (∃ t, execTimes .advance (phaseRange referenceConfig s.mode) s = .next t ∧ t.phase = s.phase) ∧
    (∀ v, v < phaseRange referenceConfig s.mode →
      ∃! n, n < phaseRange referenceConfig s.mode ∧ ∃ t, execTimes .advance n s = .next t ∧ t.phase.toNat = v)

/-- 42_frame_sequencer.md R126, hue mode: the four events of a frame in their order and its net effect. That channel 3 stays
is log 19. -/
def Obligations.HueFrame : Prop :=
  ∀ (s : State) (l : List Turn), s.op = .loadp → s.mode = .hue → s.phase.toNat < 360 → s.dlyPending = false →
    s.schedule = frameTurns frameHue ++ l →
    ∃ t, runSteps 11 s = .next t ∧ t.trace = s.trace ++ hueFrameEvents s.phase ∧
      t.phase.toNat = (s.phase.toNat + 1) % 360 ∧ t.op = .loadp ∧ t.mode = .hue ∧ t.dlyPending = false ∧
      t.fault = s.fault ∧ t.ch3 = s.ch3 ∧ t.schedule = l

/-- 42_frame_sequencer.md R126, phase mode. That channel 3 stays is log 19. -/
def Obligations.PhaseFrame : Prop :=
  ∀ (s : State) (l : List Turn), s.op = .loadp → s.mode = .phase → s.dlyPending = false →
    s.schedule = frameTurns framePhase ++ l →
    ∃ t, runSteps 10 s = .next t ∧ t.trace = s.trace ++ phaseFrameEvents s.phase.toNat ∧
      t.phase.toNat = (s.phase.toNat + 1) % 1024 ∧ t.op = .loadp ∧ t.mode = .phase ∧ t.dlyPending = false ∧
      t.fault = s.fault ∧ t.ch3 = s.ch3 ∧ t.schedule = l

/-- 42_frame_sequencer.md R126, last sentence, R125: any number of frames in hue mode, every finite prefix of the trace at
frame boundaries. -/
def Obligations.HueFramesInSequence : Prop :=
  ∀ (n : Nat) (s : State) (l : List Turn), s.op = .loadp → s.mode = .hue → s.phase.toNat < 360 →
    s.dlyPending = false → s.schedule = framesTurns frameHue n ++ l →
    ∃ t, runSteps (11 * n) s = .next t ∧ t.op = .loadp ∧ t.phase.toNat = (s.phase.toNat + n) % 360 ∧ t.schedule = l ∧
      t.trace = s.trace ++
        (List.range n).flatMap (fun k => hueFrameEvents (BitVec.ofNat 10 ((s.phase.toNat + k) % 360)))

/-- 42_frame_sequencer.md R126, last sentence: any number of frames in phase mode. -/
def Obligations.PhaseFramesInSequence : Prop :=
  ∀ (n : Nat) (s : State) (l : List Turn), s.op = .loadp → s.mode = .phase →
    s.dlyPending = false → s.schedule = framesTurns framePhase n ++ l →
    ∃ t, runSteps (10 * n) s = .next t ∧ t.op = .loadp ∧ t.phase.toNat = (s.phase.toNat + n) % 1024 ∧ t.schedule = l ∧
      t.trace = s.trace ++ (List.range n).flatMap (fun k => phaseFrameEvents ((s.phase.toNat + k) % 1024))

/-- 30_encoding.md R73: a frame passes through the operations of its pseudo-operation in order. -/
def Obligations.FramesExpandThePseudoOperations : Prop :=
  (frameHue.map encode = [0b0001#4, 0b0010#4, 0b0100#4, 0b0101#4, 0b1000#4, 0b1001#4, 0b1010#4, 0b1100#4, 0b1101#4,
    0b1110#4]) ∧
  (framePhase.map encode = [0b0001#4, 0b0011#4, 0b0110#4, 0b1000#4, 0b1001#4, 0b1010#4, 0b1100#4, 0b1101#4, 0b1110#4]) ∧
  (∀ (s : State) (l : List Turn) (k : Nat) (i : Instr), s.op = .loadp → s.mode = .hue → s.phase.toNat < 360 →
    s.schedule = frameTurns frameHue ++ l → frameHue[k]? = some i → ∃ t, runSteps k s = .next t ∧ t.op = i) ∧
  (∀ (s : State) (l : List Turn) (k : Nat) (i : Instr), s.op = .loadp → s.mode = .phase →
    s.schedule = frameTurns framePhase ++ l → framePhase[k]? = some i → ∃ t, runSteps k s = .next t ∧ t.op = i)

/-! ### The width limit -/

/-- 20_memory.md R46, 70_reset_and_hazards.md R182: no step of any agent of the model writes or emits a width above
`MAX_DUTY`, whatever the state it starts from, and what `SCALE` and `WAVE` leave in the width registers is never above it
(41_duty_scaler.md R102). The refusal that makes it so in states with an injected width is log 11; over the reset turn the
channels rest on log 7; at channel 3, which 70_reset_and_hazards.md R184 leaves to the platform, the clause holds because no
turn of the model writes it, the model's choice (log 19). -/
def Obligations.NoWidthAboveMaxDutyIsEverWritten : Prop :=
  (∀ s t : State, step s = .next t →
    (∀ c : ChannelId, t.readCh c ≠ s.readCh c → (t.readCh c).toNat ≤ 1024) ∧
    (∀ e ∈ t.events, e ∈ s.events ∨ e.legal)) ∧
  (∀ (i : Instr) (s : State), (i = .scale ∨ i = .wave) →
    ∃ t, exec i s = .next t ∧ ∀ k : Lane, (t.readW k).toNat ≤ 1024)
end

