-- ==== Sys2Proof/Laws/PerInstr.lean ====
section
/-! SUPPORT. Statements about every operation as syntax, one lemma per constructor. Family RoundTrip: decoding the code
of an operation gives the operation back (30_encoding.md R62). -/

namespace Sys2Proof.Laws.RoundTrip

/-- Decoding the code of `i` gives `i`. -/
def Statement (i : Instr) : Prop := decode (encode i) = i

theorem idle : Statement .idle := rfl

theorem loadp : Statement .loadp := rfl

theorem derivh : Statement .derivh := rfl

theorem derivp : Statement .derivp := rfl

theorem convert : Statement .convert := rfl

theorem scale : Statement .scale := rfl

theorem wave : Statement .wave := rfl

theorem reserved0111 : Statement .reserved0111 := rfl

theorem setd0 : Statement .setd0 := rfl

theorem setd1 : Statement .setd1 := rfl

theorem setd2 : Statement .setd2 := rfl

theorem reserved1011 : Statement .reserved1011 := rfl

theorem advance : Statement .advance := rfl

theorem dlyreq : Statement .dlyreq := rfl

theorem dlywait : Statement .dlywait := rfl

theorem halt : Statement .halt := rfl

end Sys2Proof.Laws.RoundTrip
end

