-- ==== Sys2Proof/Laws/State.lean ====
section
/-! SUPPORT. The fields of a state after each shared update, one lemma per field and update, so that no later proof
unfolds a record update. -/

namespace Sys2Proof.Machine

variable (s : State)

/-! ### Going to a successor -/

@[simp] theorem goto_stepReg (i : Instr) : (s.goto i).stepReg = encode i := rfl
@[simp] theorem goto_phase (i : Instr) : (s.goto i).phase = s.phase := rfl
@[simp] theorem goto_mode (i : Instr) : (s.goto i).mode = s.mode := rfl
@[simp] theorem goto_fault (i : Instr) : (s.goto i).fault = s.fault := rfl
@[simp] theorem goto_cause (i : Instr) : (s.goto i).cause = s.cause := rfl
@[simp] theorem goto_finfo (i : Instr) : (s.goto i).finfo = s.finfo := rfl
@[simp] theorem goto_regP (i : Instr) : (s.goto i).regP = s.regP := rfl
@[simp] theorem goto_regH (i : Instr) : (s.goto i).regH = s.regH := rfl
@[simp] theorem goto_regS (i : Instr) : (s.goto i).regS = s.regS := rfl
@[simp] theorem goto_regV (i : Instr) : (s.goto i).regV = s.regV := rfl
@[simp] theorem goto_regR (i : Instr) : (s.goto i).regR = s.regR := rfl
@[simp] theorem goto_regG (i : Instr) : (s.goto i).regG = s.regG := rfl
@[simp] theorem goto_regB (i : Instr) : (s.goto i).regB = s.regB := rfl
@[simp] theorem goto_regX0 (i : Instr) : (s.goto i).regX0 = s.regX0 := rfl
@[simp] theorem goto_regX1 (i : Instr) : (s.goto i).regX1 = s.regX1 := rfl
@[simp] theorem goto_regX2 (i : Instr) : (s.goto i).regX2 = s.regX2 := rfl
@[simp] theorem goto_regW0 (i : Instr) : (s.goto i).regW0 = s.regW0 := rfl
@[simp] theorem goto_regW1 (i : Instr) : (s.goto i).regW1 = s.regW1 := rfl
@[simp] theorem goto_regW2 (i : Instr) : (s.goto i).regW2 = s.regW2 := rfl
@[simp] theorem goto_dlyPending (i : Instr) : (s.goto i).dlyPending = s.dlyPending := rfl
@[simp] theorem goto_dlyMs (i : Instr) : (s.goto i).dlyMs = s.dlyMs := rfl
@[simp] theorem goto_ch0 (i : Instr) : (s.goto i).ch0 = s.ch0 := rfl
@[simp] theorem goto_ch1 (i : Instr) : (s.goto i).ch1 = s.ch1 := rfl
@[simp] theorem goto_ch2 (i : Instr) : (s.goto i).ch2 = s.ch2 := rfl
@[simp] theorem goto_ch3 (i : Instr) : (s.goto i).ch3 = s.ch3 := rfl
@[simp] theorem goto_events (i : Instr) : (s.goto i).events = s.events := rfl
@[simp] theorem goto_schedule (i : Instr) : (s.goto i).schedule = s.schedule := rfl
@[simp] theorem goto_draws (i : Instr) : (s.goto i).draws = s.draws := rfl

/-! ### Emitting an event -/

@[simp] theorem emit_stepReg (e : Event) : (s.emit e).stepReg = s.stepReg := rfl
@[simp] theorem emit_phase (e : Event) : (s.emit e).phase = s.phase := rfl
@[simp] theorem emit_mode (e : Event) : (s.emit e).mode = s.mode := rfl
@[simp] theorem emit_fault (e : Event) : (s.emit e).fault = s.fault := rfl
@[simp] theorem emit_cause (e : Event) : (s.emit e).cause = s.cause := rfl
@[simp] theorem emit_finfo (e : Event) : (s.emit e).finfo = s.finfo := rfl
@[simp] theorem emit_regP (e : Event) : (s.emit e).regP = s.regP := rfl
@[simp] theorem emit_regH (e : Event) : (s.emit e).regH = s.regH := rfl
@[simp] theorem emit_regS (e : Event) : (s.emit e).regS = s.regS := rfl
@[simp] theorem emit_regV (e : Event) : (s.emit e).regV = s.regV := rfl
@[simp] theorem emit_regR (e : Event) : (s.emit e).regR = s.regR := rfl
@[simp] theorem emit_regG (e : Event) : (s.emit e).regG = s.regG := rfl
@[simp] theorem emit_regB (e : Event) : (s.emit e).regB = s.regB := rfl
@[simp] theorem emit_regX0 (e : Event) : (s.emit e).regX0 = s.regX0 := rfl
@[simp] theorem emit_regX1 (e : Event) : (s.emit e).regX1 = s.regX1 := rfl
@[simp] theorem emit_regX2 (e : Event) : (s.emit e).regX2 = s.regX2 := rfl
@[simp] theorem emit_regW0 (e : Event) : (s.emit e).regW0 = s.regW0 := rfl
@[simp] theorem emit_regW1 (e : Event) : (s.emit e).regW1 = s.regW1 := rfl
@[simp] theorem emit_regW2 (e : Event) : (s.emit e).regW2 = s.regW2 := rfl
@[simp] theorem emit_dlyPending (e : Event) : (s.emit e).dlyPending = s.dlyPending := rfl
@[simp] theorem emit_dlyMs (e : Event) : (s.emit e).dlyMs = s.dlyMs := rfl
@[simp] theorem emit_ch0 (e : Event) : (s.emit e).ch0 = s.ch0 := rfl
@[simp] theorem emit_ch1 (e : Event) : (s.emit e).ch1 = s.ch1 := rfl
@[simp] theorem emit_ch2 (e : Event) : (s.emit e).ch2 = s.ch2 := rfl
@[simp] theorem emit_ch3 (e : Event) : (s.emit e).ch3 = s.ch3 := rfl
@[simp] theorem emit_events (e : Event) : (s.emit e).events = e :: s.events := rfl
@[simp] theorem emit_schedule (e : Event) : (s.emit e).schedule = s.schedule := rfl
@[simp] theorem emit_draws (e : Event) : (s.emit e).draws = s.draws := rfl

/-! ### Writing a channel (its four channels: Laws/Ops.lean) -/

@[simp] theorem writeCh_stepReg (c : ChannelId) (w : Width) : (s.writeCh c w).stepReg = s.stepReg := by unfold State.writeCh; split_ifs <;> rfl
@[simp] theorem writeCh_phase (c : ChannelId) (w : Width) : (s.writeCh c w).phase = s.phase := by unfold State.writeCh; split_ifs <;> rfl
@[simp] theorem writeCh_mode (c : ChannelId) (w : Width) : (s.writeCh c w).mode = s.mode := by unfold State.writeCh; split_ifs <;> rfl
@[simp] theorem writeCh_fault (c : ChannelId) (w : Width) : (s.writeCh c w).fault = s.fault := by unfold State.writeCh; split_ifs <;> rfl
@[simp] theorem writeCh_cause (c : ChannelId) (w : Width) : (s.writeCh c w).cause = s.cause := by unfold State.writeCh; split_ifs <;> rfl
@[simp] theorem writeCh_finfo (c : ChannelId) (w : Width) : (s.writeCh c w).finfo = s.finfo := by unfold State.writeCh; split_ifs <;> rfl
@[simp] theorem writeCh_regP (c : ChannelId) (w : Width) : (s.writeCh c w).regP = s.regP := by unfold State.writeCh; split_ifs <;> rfl
@[simp] theorem writeCh_regH (c : ChannelId) (w : Width) : (s.writeCh c w).regH = s.regH := by unfold State.writeCh; split_ifs <;> rfl
@[simp] theorem writeCh_regS (c : ChannelId) (w : Width) : (s.writeCh c w).regS = s.regS := by unfold State.writeCh; split_ifs <;> rfl
@[simp] theorem writeCh_regV (c : ChannelId) (w : Width) : (s.writeCh c w).regV = s.regV := by unfold State.writeCh; split_ifs <;> rfl
@[simp] theorem writeCh_regR (c : ChannelId) (w : Width) : (s.writeCh c w).regR = s.regR := by unfold State.writeCh; split_ifs <;> rfl
@[simp] theorem writeCh_regG (c : ChannelId) (w : Width) : (s.writeCh c w).regG = s.regG := by unfold State.writeCh; split_ifs <;> rfl
@[simp] theorem writeCh_regB (c : ChannelId) (w : Width) : (s.writeCh c w).regB = s.regB := by unfold State.writeCh; split_ifs <;> rfl
@[simp] theorem writeCh_regX0 (c : ChannelId) (w : Width) : (s.writeCh c w).regX0 = s.regX0 := by unfold State.writeCh; split_ifs <;> rfl
@[simp] theorem writeCh_regX1 (c : ChannelId) (w : Width) : (s.writeCh c w).regX1 = s.regX1 := by unfold State.writeCh; split_ifs <;> rfl
@[simp] theorem writeCh_regX2 (c : ChannelId) (w : Width) : (s.writeCh c w).regX2 = s.regX2 := by unfold State.writeCh; split_ifs <;> rfl
@[simp] theorem writeCh_regW0 (c : ChannelId) (w : Width) : (s.writeCh c w).regW0 = s.regW0 := by unfold State.writeCh; split_ifs <;> rfl
@[simp] theorem writeCh_regW1 (c : ChannelId) (w : Width) : (s.writeCh c w).regW1 = s.regW1 := by unfold State.writeCh; split_ifs <;> rfl
@[simp] theorem writeCh_regW2 (c : ChannelId) (w : Width) : (s.writeCh c w).regW2 = s.regW2 := by unfold State.writeCh; split_ifs <;> rfl
@[simp] theorem writeCh_dlyPending (c : ChannelId) (w : Width) : (s.writeCh c w).dlyPending = s.dlyPending := by unfold State.writeCh; split_ifs <;> rfl
@[simp] theorem writeCh_dlyMs (c : ChannelId) (w : Width) : (s.writeCh c w).dlyMs = s.dlyMs := by unfold State.writeCh; split_ifs <;> rfl
@[simp] theorem writeCh_events (c : ChannelId) (w : Width) : (s.writeCh c w).events = s.events := by unfold State.writeCh; split_ifs <;> rfl
@[simp] theorem writeCh_schedule (c : ChannelId) (w : Width) : (s.writeCh c w).schedule = s.schedule := by unfold State.writeCh; split_ifs <;> rfl
@[simp] theorem writeCh_draws (c : ChannelId) (w : Width) : (s.writeCh c w).draws = s.draws := by unfold State.writeCh; split_ifs <;> rfl

/-! ### The store of a width (its four channels: Laws/Ops.lean) -/

@[simp] theorem memWrite_stepReg (c : ChannelId) (w : Width) : (s.memWrite c w).stepReg = s.stepReg := by simp [State.memWrite]
@[simp] theorem memWrite_phase (c : ChannelId) (w : Width) : (s.memWrite c w).phase = s.phase := by simp [State.memWrite]
@[simp] theorem memWrite_mode (c : ChannelId) (w : Width) : (s.memWrite c w).mode = s.mode := by simp [State.memWrite]
@[simp] theorem memWrite_fault (c : ChannelId) (w : Width) : (s.memWrite c w).fault = s.fault := by simp [State.memWrite]
@[simp] theorem memWrite_cause (c : ChannelId) (w : Width) : (s.memWrite c w).cause = s.cause := by simp [State.memWrite]
@[simp] theorem memWrite_finfo (c : ChannelId) (w : Width) : (s.memWrite c w).finfo = s.finfo := by simp [State.memWrite]
@[simp] theorem memWrite_regP (c : ChannelId) (w : Width) : (s.memWrite c w).regP = s.regP := by simp [State.memWrite]
@[simp] theorem memWrite_regH (c : ChannelId) (w : Width) : (s.memWrite c w).regH = s.regH := by simp [State.memWrite]
@[simp] theorem memWrite_regS (c : ChannelId) (w : Width) : (s.memWrite c w).regS = s.regS := by simp [State.memWrite]
@[simp] theorem memWrite_regV (c : ChannelId) (w : Width) : (s.memWrite c w).regV = s.regV := by simp [State.memWrite]
@[simp] theorem memWrite_regR (c : ChannelId) (w : Width) : (s.memWrite c w).regR = s.regR := by simp [State.memWrite]
@[simp] theorem memWrite_regG (c : ChannelId) (w : Width) : (s.memWrite c w).regG = s.regG := by simp [State.memWrite]
@[simp] theorem memWrite_regB (c : ChannelId) (w : Width) : (s.memWrite c w).regB = s.regB := by simp [State.memWrite]
@[simp] theorem memWrite_regX0 (c : ChannelId) (w : Width) : (s.memWrite c w).regX0 = s.regX0 := by simp [State.memWrite]
@[simp] theorem memWrite_regX1 (c : ChannelId) (w : Width) : (s.memWrite c w).regX1 = s.regX1 := by simp [State.memWrite]
@[simp] theorem memWrite_regX2 (c : ChannelId) (w : Width) : (s.memWrite c w).regX2 = s.regX2 := by simp [State.memWrite]
@[simp] theorem memWrite_regW0 (c : ChannelId) (w : Width) : (s.memWrite c w).regW0 = s.regW0 := by simp [State.memWrite]
@[simp] theorem memWrite_regW1 (c : ChannelId) (w : Width) : (s.memWrite c w).regW1 = s.regW1 := by simp [State.memWrite]
@[simp] theorem memWrite_regW2 (c : ChannelId) (w : Width) : (s.memWrite c w).regW2 = s.regW2 := by simp [State.memWrite]
@[simp] theorem memWrite_dlyPending (c : ChannelId) (w : Width) : (s.memWrite c w).dlyPending = s.dlyPending := by simp [State.memWrite]
@[simp] theorem memWrite_dlyMs (c : ChannelId) (w : Width) : (s.memWrite c w).dlyMs = s.dlyMs := by simp [State.memWrite]
@[simp] theorem memWrite_events (c : ChannelId) (w : Width) : (s.memWrite c w).events = .setDuty c w :: s.events := by simp [State.memWrite]
@[simp] theorem memWrite_schedule (c : ChannelId) (w : Width) : (s.memWrite c w).schedule = s.schedule := by simp [State.memWrite]
@[simp] theorem memWrite_draws (c : ChannelId) (w : Width) : (s.memWrite c w).draws = s.draws := by simp [State.memWrite]

/-! ### Fault entry -/

@[simp] theorem raiseFault_stepReg (c : Cause) (i : BitVec 10) : (s.raiseFault c i).stepReg = encode .halt := rfl
@[simp] theorem raiseFault_phase (c : Cause) (i : BitVec 10) : (s.raiseFault c i).phase = s.phase := rfl
@[simp] theorem raiseFault_mode (c : Cause) (i : BitVec 10) : (s.raiseFault c i).mode = s.mode := rfl
@[simp] theorem raiseFault_fault (c : Cause) (i : BitVec 10) : (s.raiseFault c i).fault = true := rfl
@[simp] theorem raiseFault_cause (c : Cause) (i : BitVec 10) : (s.raiseFault c i).cause = c := rfl
@[simp] theorem raiseFault_finfo (c : Cause) (i : BitVec 10) : (s.raiseFault c i).finfo = i := rfl
@[simp] theorem raiseFault_regP (c : Cause) (i : BitVec 10) : (s.raiseFault c i).regP = s.regP := rfl
@[simp] theorem raiseFault_regH (c : Cause) (i : BitVec 10) : (s.raiseFault c i).regH = s.regH := rfl
@[simp] theorem raiseFault_regS (c : Cause) (i : BitVec 10) : (s.raiseFault c i).regS = s.regS := rfl
@[simp] theorem raiseFault_regV (c : Cause) (i : BitVec 10) : (s.raiseFault c i).regV = s.regV := rfl
@[simp] theorem raiseFault_regR (c : Cause) (i : BitVec 10) : (s.raiseFault c i).regR = s.regR := rfl
@[simp] theorem raiseFault_regG (c : Cause) (i : BitVec 10) : (s.raiseFault c i).regG = s.regG := rfl
@[simp] theorem raiseFault_regB (c : Cause) (i : BitVec 10) : (s.raiseFault c i).regB = s.regB := rfl
@[simp] theorem raiseFault_regX0 (c : Cause) (i : BitVec 10) : (s.raiseFault c i).regX0 = s.regX0 := rfl
@[simp] theorem raiseFault_regX1 (c : Cause) (i : BitVec 10) : (s.raiseFault c i).regX1 = s.regX1 := rfl
@[simp] theorem raiseFault_regX2 (c : Cause) (i : BitVec 10) : (s.raiseFault c i).regX2 = s.regX2 := rfl
@[simp] theorem raiseFault_regW0 (c : Cause) (i : BitVec 10) : (s.raiseFault c i).regW0 = s.regW0 := rfl
@[simp] theorem raiseFault_regW1 (c : Cause) (i : BitVec 10) : (s.raiseFault c i).regW1 = s.regW1 := rfl
@[simp] theorem raiseFault_regW2 (c : Cause) (i : BitVec 10) : (s.raiseFault c i).regW2 = s.regW2 := rfl
@[simp] theorem raiseFault_dlyPending (c : Cause) (i : BitVec 10) : (s.raiseFault c i).dlyPending = s.dlyPending := rfl
@[simp] theorem raiseFault_dlyMs (c : Cause) (i : BitVec 10) : (s.raiseFault c i).dlyMs = s.dlyMs := rfl
@[simp] theorem raiseFault_ch0 (c : Cause) (i : BitVec 10) : (s.raiseFault c i).ch0 = s.ch0 := rfl
@[simp] theorem raiseFault_ch1 (c : Cause) (i : BitVec 10) : (s.raiseFault c i).ch1 = s.ch1 := rfl
@[simp] theorem raiseFault_ch2 (c : Cause) (i : BitVec 10) : (s.raiseFault c i).ch2 = s.ch2 := rfl
@[simp] theorem raiseFault_ch3 (c : Cause) (i : BitVec 10) : (s.raiseFault c i).ch3 = s.ch3 := rfl
@[simp] theorem raiseFault_events (c : Cause) (i : BitVec 10) : (s.raiseFault c i).events = s.events := rfl
@[simp] theorem raiseFault_schedule (c : Cause) (i : BitVec 10) : (s.raiseFault c i).schedule = s.schedule := rfl
@[simp] theorem raiseFault_draws (c : Cause) (i : BitVec 10) : (s.raiseFault c i).draws = s.draws := rfl

/-! ### The end of a turn -/

@[simp] theorem popTurn_stepReg : (s.popTurn).stepReg = s.stepReg := rfl
@[simp] theorem popTurn_phase : (s.popTurn).phase = s.phase := rfl
@[simp] theorem popTurn_mode : (s.popTurn).mode = s.mode := rfl
@[simp] theorem popTurn_fault : (s.popTurn).fault = s.fault := rfl
@[simp] theorem popTurn_cause : (s.popTurn).cause = s.cause := rfl
@[simp] theorem popTurn_finfo : (s.popTurn).finfo = s.finfo := rfl
@[simp] theorem popTurn_regP : (s.popTurn).regP = s.regP := rfl
@[simp] theorem popTurn_regH : (s.popTurn).regH = s.regH := rfl
@[simp] theorem popTurn_regS : (s.popTurn).regS = s.regS := rfl
@[simp] theorem popTurn_regV : (s.popTurn).regV = s.regV := rfl
@[simp] theorem popTurn_regR : (s.popTurn).regR = s.regR := rfl
@[simp] theorem popTurn_regG : (s.popTurn).regG = s.regG := rfl
@[simp] theorem popTurn_regB : (s.popTurn).regB = s.regB := rfl
@[simp] theorem popTurn_regX0 : (s.popTurn).regX0 = s.regX0 := rfl
@[simp] theorem popTurn_regX1 : (s.popTurn).regX1 = s.regX1 := rfl
@[simp] theorem popTurn_regX2 : (s.popTurn).regX2 = s.regX2 := rfl
@[simp] theorem popTurn_regW0 : (s.popTurn).regW0 = s.regW0 := rfl
@[simp] theorem popTurn_regW1 : (s.popTurn).regW1 = s.regW1 := rfl
@[simp] theorem popTurn_regW2 : (s.popTurn).regW2 = s.regW2 := rfl
@[simp] theorem popTurn_dlyPending : (s.popTurn).dlyPending = s.dlyPending := rfl
@[simp] theorem popTurn_dlyMs : (s.popTurn).dlyMs = s.dlyMs := rfl
@[simp] theorem popTurn_ch0 : (s.popTurn).ch0 = s.ch0 := rfl
@[simp] theorem popTurn_ch1 : (s.popTurn).ch1 = s.ch1 := rfl
@[simp] theorem popTurn_ch2 : (s.popTurn).ch2 = s.ch2 := rfl
@[simp] theorem popTurn_ch3 : (s.popTurn).ch3 = s.ch3 := rfl
@[simp] theorem popTurn_events : (s.popTurn).events = s.events := rfl
@[simp] theorem popTurn_schedule : (s.popTurn).schedule = s.schedule.tail := rfl
@[simp] theorem popTurn_draws : (s.popTurn).draws = s.draws := rfl

/-! ### The delay agent -/

@[simp] theorem delayAgentStep_stepReg : (delayAgentStep s).stepReg = s.stepReg := by unfold delayAgentStep; split <;> simp_all
@[simp] theorem delayAgentStep_phase : (delayAgentStep s).phase = s.phase := by unfold delayAgentStep; split <;> simp_all
@[simp] theorem delayAgentStep_mode : (delayAgentStep s).mode = s.mode := by unfold delayAgentStep; split <;> simp_all
@[simp] theorem delayAgentStep_fault : (delayAgentStep s).fault = s.fault := by unfold delayAgentStep; split <;> simp_all
@[simp] theorem delayAgentStep_cause : (delayAgentStep s).cause = s.cause := by unfold delayAgentStep; split <;> simp_all
@[simp] theorem delayAgentStep_finfo : (delayAgentStep s).finfo = s.finfo := by unfold delayAgentStep; split <;> simp_all
@[simp] theorem delayAgentStep_regP : (delayAgentStep s).regP = s.regP := by unfold delayAgentStep; split <;> simp_all
@[simp] theorem delayAgentStep_regH : (delayAgentStep s).regH = s.regH := by unfold delayAgentStep; split <;> simp_all
@[simp] theorem delayAgentStep_regS : (delayAgentStep s).regS = s.regS := by unfold delayAgentStep; split <;> simp_all
@[simp] theorem delayAgentStep_regV : (delayAgentStep s).regV = s.regV := by unfold delayAgentStep; split <;> simp_all
@[simp] theorem delayAgentStep_regR : (delayAgentStep s).regR = s.regR := by unfold delayAgentStep; split <;> simp_all
@[simp] theorem delayAgentStep_regG : (delayAgentStep s).regG = s.regG := by unfold delayAgentStep; split <;> simp_all
@[simp] theorem delayAgentStep_regB : (delayAgentStep s).regB = s.regB := by unfold delayAgentStep; split <;> simp_all
@[simp] theorem delayAgentStep_regX0 : (delayAgentStep s).regX0 = s.regX0 := by unfold delayAgentStep; split <;> simp_all
@[simp] theorem delayAgentStep_regX1 : (delayAgentStep s).regX1 = s.regX1 := by unfold delayAgentStep; split <;> simp_all
@[simp] theorem delayAgentStep_regX2 : (delayAgentStep s).regX2 = s.regX2 := by unfold delayAgentStep; split <;> simp_all
@[simp] theorem delayAgentStep_regW0 : (delayAgentStep s).regW0 = s.regW0 := by unfold delayAgentStep; split <;> simp_all
@[simp] theorem delayAgentStep_regW1 : (delayAgentStep s).regW1 = s.regW1 := by unfold delayAgentStep; split <;> simp_all
@[simp] theorem delayAgentStep_regW2 : (delayAgentStep s).regW2 = s.regW2 := by unfold delayAgentStep; split <;> simp_all
@[simp] theorem delayAgentStep_dlyPending : (delayAgentStep s).dlyPending = false := by unfold delayAgentStep; split <;> simp_all
@[simp] theorem delayAgentStep_dlyMs : (delayAgentStep s).dlyMs = s.dlyMs := by unfold delayAgentStep; split <;> simp_all
@[simp] theorem delayAgentStep_ch0 : (delayAgentStep s).ch0 = s.ch0 := by unfold delayAgentStep; split <;> simp_all
@[simp] theorem delayAgentStep_ch1 : (delayAgentStep s).ch1 = s.ch1 := by unfold delayAgentStep; split <;> simp_all
@[simp] theorem delayAgentStep_ch2 : (delayAgentStep s).ch2 = s.ch2 := by unfold delayAgentStep; split <;> simp_all
@[simp] theorem delayAgentStep_ch3 : (delayAgentStep s).ch3 = s.ch3 := by unfold delayAgentStep; split <;> simp_all
@[simp] theorem delayAgentStep_events : (delayAgentStep s).events = s.events := by unfold delayAgentStep; split <;> simp_all
@[simp] theorem delayAgentStep_schedule : (delayAgentStep s).schedule = s.schedule := by unfold delayAgentStep; split <;> simp_all
@[simp] theorem delayAgentStep_draws : (delayAgentStep s).draws = s.draws := by unfold delayAgentStep; split <;> simp_all

/-! ### The reset action -/

@[simp] theorem resetAction_stepReg : (resetAction s).stepReg = encode .idle := rfl
@[simp] theorem resetAction_phase : (resetAction s).phase = 0 := rfl
@[simp] theorem resetAction_mode : (resetAction s).mode = .hue := rfl
@[simp] theorem resetAction_fault : (resetAction s).fault = false := rfl
@[simp] theorem resetAction_cause : (resetAction s).cause = .none := rfl
@[simp] theorem resetAction_finfo : (resetAction s).finfo = 0 := rfl
@[simp] theorem resetAction_regP : (resetAction s).regP = s.free 10 0 := rfl
@[simp] theorem resetAction_regH : (resetAction s).regH = s.free 10 1 := rfl
@[simp] theorem resetAction_regS : (resetAction s).regS = s.free 7 2 := rfl
@[simp] theorem resetAction_regV : (resetAction s).regV = s.free 7 3 := rfl
@[simp] theorem resetAction_regR : (resetAction s).regR = s.free 8 4 := rfl
@[simp] theorem resetAction_regG : (resetAction s).regG = s.free 8 5 := rfl
@[simp] theorem resetAction_regB : (resetAction s).regB = s.free 8 6 := rfl
@[simp] theorem resetAction_regX0 : (resetAction s).regX0 = s.free 10 7 := rfl
@[simp] theorem resetAction_regX1 : (resetAction s).regX1 = s.free 10 8 := rfl
@[simp] theorem resetAction_regX2 : (resetAction s).regX2 = s.free 10 9 := rfl
@[simp] theorem resetAction_regW0 : (resetAction s).regW0 = s.free 11 10 := rfl
@[simp] theorem resetAction_regW1 : (resetAction s).regW1 = s.free 11 11 := rfl
@[simp] theorem resetAction_regW2 : (resetAction s).regW2 = s.free 11 12 := rfl
@[simp] theorem resetAction_dlyPending : (resetAction s).dlyPending = false := rfl
@[simp] theorem resetAction_dlyMs : (resetAction s).dlyMs = 0 := rfl
@[simp] theorem resetAction_ch0 : (resetAction s).ch0 = s.ch0 := rfl
@[simp] theorem resetAction_ch1 : (resetAction s).ch1 = s.ch1 := rfl
@[simp] theorem resetAction_ch2 : (resetAction s).ch2 = s.ch2 := rfl
@[simp] theorem resetAction_ch3 : (resetAction s).ch3 = s.ch3 := rfl
@[simp] theorem resetAction_events : (resetAction s).events = s.events := rfl
@[simp] theorem resetAction_schedule : (resetAction s).schedule = s.schedule := rfl
@[simp] theorem resetAction_draws : (resetAction s).draws = s.draws + 13 := rfl

/-! ### Placing a code -/

@[simp] theorem placeCode_stepReg (w : Nat) : (s.placeCode w).stepReg = BitVec.ofNat 4 w := rfl
@[simp] theorem placeCode_phase (w : Nat) : (s.placeCode w).phase = s.phase := rfl
@[simp] theorem placeCode_mode (w : Nat) : (s.placeCode w).mode = s.mode := rfl
@[simp] theorem placeCode_fault (w : Nat) : (s.placeCode w).fault = s.fault := rfl
@[simp] theorem placeCode_cause (w : Nat) : (s.placeCode w).cause = s.cause := rfl
@[simp] theorem placeCode_finfo (w : Nat) : (s.placeCode w).finfo = s.finfo := rfl
@[simp] theorem placeCode_regP (w : Nat) : (s.placeCode w).regP = s.regP := rfl
@[simp] theorem placeCode_regH (w : Nat) : (s.placeCode w).regH = s.regH := rfl
@[simp] theorem placeCode_regS (w : Nat) : (s.placeCode w).regS = s.regS := rfl
@[simp] theorem placeCode_regV (w : Nat) : (s.placeCode w).regV = s.regV := rfl
@[simp] theorem placeCode_regR (w : Nat) : (s.placeCode w).regR = s.regR := rfl
@[simp] theorem placeCode_regG (w : Nat) : (s.placeCode w).regG = s.regG := rfl
@[simp] theorem placeCode_regB (w : Nat) : (s.placeCode w).regB = s.regB := rfl
@[simp] theorem placeCode_regX0 (w : Nat) : (s.placeCode w).regX0 = s.regX0 := rfl
@[simp] theorem placeCode_regX1 (w : Nat) : (s.placeCode w).regX1 = s.regX1 := rfl
@[simp] theorem placeCode_regX2 (w : Nat) : (s.placeCode w).regX2 = s.regX2 := rfl
@[simp] theorem placeCode_regW0 (w : Nat) : (s.placeCode w).regW0 = s.regW0 := rfl
@[simp] theorem placeCode_regW1 (w : Nat) : (s.placeCode w).regW1 = s.regW1 := rfl
@[simp] theorem placeCode_regW2 (w : Nat) : (s.placeCode w).regW2 = s.regW2 := rfl
@[simp] theorem placeCode_dlyPending (w : Nat) : (s.placeCode w).dlyPending = s.dlyPending := rfl
@[simp] theorem placeCode_dlyMs (w : Nat) : (s.placeCode w).dlyMs = s.dlyMs := rfl
@[simp] theorem placeCode_ch0 (w : Nat) : (s.placeCode w).ch0 = s.ch0 := rfl
@[simp] theorem placeCode_ch1 (w : Nat) : (s.placeCode w).ch1 = s.ch1 := rfl
@[simp] theorem placeCode_ch2 (w : Nat) : (s.placeCode w).ch2 = s.ch2 := rfl
@[simp] theorem placeCode_ch3 (w : Nat) : (s.placeCode w).ch3 = s.ch3 := rfl
@[simp] theorem placeCode_events (w : Nat) : (s.placeCode w).events = s.events := rfl
@[simp] theorem placeCode_schedule (w : Nat) : (s.placeCode w).schedule = .sequencer :: s.schedule := rfl
@[simp] theorem placeCode_draws (w : Nat) : (s.placeCode w).draws = s.draws := rfl

end Sys2Proof.Machine
end

