-- ==== Sys2Proof/Laws/Ops.lean ====
section
/-! SUPPORT. What each shared operation does: the sink's channels, the operation in `STEP` after an update, and the end
of a turn. -/

namespace Sys2Proof.Machine

variable (s : State)

/-! ### The sink's channels -/

@[simp] theorem readCh_zero : s.readCh 0 = s.ch0 := rfl
@[simp] theorem readCh_one : s.readCh 1 = s.ch1 := rfl
@[simp] theorem readCh_two : s.readCh 2 = s.ch2 := rfl
@[simp] theorem readCh_three : s.readCh 3 = s.ch3 := rfl

/-- A channel id is one of the four. -/
theorem channelId_cases (c : ChannelId) : c = 0 ∨ c = 1 ∨ c = 2 ∨ c = 3 := by
  revert c; decide

/-- What a channel reads as depends on the four channel fields alone. -/
theorem readCh_congr {s t : State} (h0 : s.ch0 = t.ch0) (h1 : s.ch1 = t.ch1) (h2 : s.ch2 = t.ch2) (h3 : s.ch3 = t.ch3)
    (c : ChannelId) : s.readCh c = t.readCh c := by
  simp [State.readCh, h0, h1, h2, h3]

/-- A read after a write: the written channel gives the width, every other channel what it gave before. -/
theorem readCh_writeCh (c d : ChannelId) (w : Width) :
    (s.writeCh c w).readCh d = if d = c then w else s.readCh d := by
  rcases channelId_cases c with rfl | rfl | rfl | rfl <;> rcases channelId_cases d with rfl | rfl | rfl | rfl <;> rfl

/-- The same of the store of a width. -/
@[simp] theorem readCh_memWrite (c d : ChannelId) (w : Width) :
    (s.memWrite c w).readCh d = if d = c then w else s.readCh d := readCh_writeCh s c d w

@[simp] theorem readCh_goto (i : Instr) (d : ChannelId) : (s.goto i).readCh d = s.readCh d := rfl
@[simp] theorem readCh_emit (e : Event) (d : ChannelId) : (s.emit e).readCh d = s.readCh d := rfl
@[simp] theorem readCh_raiseFault (c : Cause) (i : BitVec 10) (d : ChannelId) :
    (s.raiseFault c i).readCh d = s.readCh d := rfl
@[simp] theorem readCh_popTurn (d : ChannelId) : s.popTurn.readCh d = s.readCh d := rfl
@[simp] theorem readCh_resetAction (d : ChannelId) : (resetAction s).readCh d = s.readCh d := rfl
@[simp] theorem readCh_delayAgentStep (d : ChannelId) : (delayAgentStep s).readCh d = s.readCh d := by
  apply readCh_congr <;> simp

/-- The four channels after a store. -/
theorem memWrite_ch (c : ChannelId) (w : Width) :
    (s.memWrite c w).ch0 = (if c = 0 then w else s.ch0) ∧ (s.memWrite c w).ch1 = (if c = 1 then w else s.ch1) ∧
    (s.memWrite c w).ch2 = (if c = 2 then w else s.ch2) ∧ (s.memWrite c w).ch3 = (if c = 3 then w else s.ch3) := by
  rcases channelId_cases c with rfl | rfl | rfl | rfl <;> exact ⟨rfl, rfl, rfl, rfl⟩

/-- The store to a used channel, written out as one record update. -/
theorem memWrite_lane (k : Lane) (w : Width) :
    s.memWrite (laneChannel k) w =
      match k with
      | .zero => { s with ch0 := w, events := .setDuty 0 w :: s.events }
      | .one => { s with ch1 := w, events := .setDuty 1 w :: s.events }
      | .two => { s with ch2 := w, events := .setDuty 2 w :: s.events } := by
  cases k <;> rfl

/-! ### The operation in `STEP` -/

@[simp] theorem decode_encode (i : Instr) : decode (encode i) = i := by
  cases i <;> rfl

@[simp] theorem encode_decode (c : Code) : encode (decode c) = c := by
  revert c; decide

@[simp] theorem op_goto (i : Instr) : (s.goto i).op = i := by simp [State.op]
@[simp] theorem op_emit (e : Event) : (s.emit e).op = s.op := rfl
@[simp] theorem op_popTurn : s.popTurn.op = s.op := rfl
@[simp] theorem op_raiseFault (c : Cause) (i : BitVec 10) : (s.raiseFault c i).op = .halt := by simp [State.op]
@[simp] theorem op_delayAgentStep : (delayAgentStep s).op = s.op := by simp [State.op]
@[simp] theorem op_resetAction : (resetAction s).op = .idle := by simp [State.op]

/-- `STEP` holds the code of the operation it names. -/
theorem stepReg_eq_encode_op : s.stepReg = encode s.op := by simp [State.op]

/-! ### The `STATUS` word -/

/-- The bits of `STATUS` (10_state.md R20). -/
theorem status_getLsbD (i : Nat) :
    s.status.getLsbD i = if i < 1 then (BitVec.ofBool s.fault).getLsbD i
      else if i - 1 < 3 then s.cause.code.getLsbD (i - 1) else s.finfo.getLsbD (i - 1 - 3) := by
  have high : s.status.getLsbD i = if i < 1 then (BitVec.ofBool s.fault).getLsbD i
      else (s.finfo ++ s.cause.code).getLsbD (i - 1) := BitVec.getLsbD_append
  rw [high, BitVec.getLsbD_append]

/-! ### The end of a turn -/

/-- A turn that ends in a next state ended an outcome that was a next state. -/
theorem endTurn_eq_next {r : Result} {t : State} (h : endTurn r = .next t) : ∃ u, r = .next u ∧ t = u.popTurn := by
  cases r with
  | next u => exact ⟨u, rfl, by simpa [endTurn] using h.symm⟩
  | fault f => simp [endTurn] at h
  | refused f => simp [endTurn] at h

@[simp] theorem endTurn_next (u : State) : endTurn (.next u) = .next u.popTurn := rfl
@[simp] theorem endTurn_fault (f : Fault) : endTurn (.fault f) = .fault f := rfl

end Sys2Proof.Machine
end

