-- ==== Sys2Proof/Laws/Exec.lean ====
section
/-! SUPPORT. What one operation can do, in the two forms proofs use: one equation per operation, and what every operation
leaves alone. -/

namespace Sys2Proof.Machine

variable (s : State)

/-! ### The shared operation of the three `SETD`s -/

@[simp] theorem sinkAccepts_reference (w : Width) : sinkAccepts referenceConfig w = true ↔ w.toNat ≤ 1024 :=
  decide_eq_true_iff

theorem setd_accepted {s : State} {k : Lane} {succ : Instr} (h : (s.readW k).toNat ≤ 1024) :
    setd k succ s = .next ((s.memWrite (laneChannel k) (s.readW k)).goto succ) :=
  if_pos ((sinkAccepts_reference _).mpr h)

theorem setd_refused {s : State} {k : Lane} {succ : Instr} (h : 1024 < (s.readW k).toNat) :
    setd k succ s = .refused .widthAboveMaxDuty :=
  if_neg fun hs => by have := (sinkAccepts_reference _).mp hs; omega

/-- A `SETD` that goes on had a width that the sink accepts, and has written it. -/
theorem setd_eq_next {s t : State} {k : Lane} {succ : Instr} (h : setd k succ s = .next t) :
    (s.readW k).toNat ≤ 1024 ∧ t = (s.memWrite (laneChannel k) (s.readW k)).goto succ := by
  rcases Nat.lt_or_ge 1024 (s.readW k).toNat with hw | hw
  · rw [setd_refused hw] at h; cases h
  · rw [setd_accepted hw] at h; injection h with h; exact ⟨hw, h.symm⟩

theorem setd_next_or_refused (k : Lane) (succ : Instr) :
    (∃ t, setd k succ s = .next t) ∨
    (1024 < (s.readW k).toNat ∧ setd k succ s = .refused .widthAboveMaxDuty) :=
  (Nat.lt_or_ge 1024 (s.readW k).toNat).elim (fun h => .inr ⟨h, setd_refused h⟩) (fun h => .inl ⟨_, setd_accepted h⟩)

/-! ### One equation per operation -/

theorem exec_idle_start {m : Mode} (h : s.startInput = some m) :
    exec .idle s = .next ({ s with mode := m }.goto .loadp) := by
  simp [exec, execIdle, h]

theorem exec_idle_held (h : s.startInput = none) : exec .idle s = .next s := by
  simp [exec, execIdle, h]

theorem exec_loadp :
    exec .loadp s = .next ({ s with regP := s.phase }.goto (match s.mode with | .hue => .derivh | .phase => .derivp)) :=
  rfl

theorem exec_derivh : exec .derivh s = .next ({ s with regH := s.regP, regS := 80, regV := 80 }.goto .convert) := rfl

theorem exec_derivp :
    exec .derivp s = .next ({ s with
      regX0 := BitVec.ofNat 10 ((s.regP.toNat + 0) % 1024)
      regX1 := BitVec.ofNat 10 ((s.regP.toNat + 341) % 1024)
      regX2 := BitVec.ofNat 10 ((s.regP.toNat + 682) % 1024) }.goto .wave) := rfl

theorem exec_convert_ok {r g b : Level} (h : convert s.regH s.regS s.regV = .ok r g b) :
    exec .convert s = .next ({ s with regR := r, regG := g, regB := b }.goto .scale) := by
  simp [exec, execConvert, h]

theorem exec_convert_err {c : Cause} {i : BitVec 10} (h : convert s.regH s.regS s.regV = .err c i) :
    exec .convert s = .next (s.raiseFault c i) := by
  simp [exec, execConvert, h]

theorem exec_scale :
    exec .scale s = .next ({ s with
      regW0 := scaleLevel referenceConfig s.regG 512
      regW1 := scaleLevel referenceConfig s.regR 1024
      regW2 := scaleLevel referenceConfig s.regB 512 }.goto .setd0) := rfl

theorem exec_wave :
    exec .wave s = .next ({ s with
      regW0 := clampWidth referenceConfig s.regX0.toNat
      regW1 := clampWidth referenceConfig s.regX1.toNat
      regW2 := clampWidth referenceConfig s.regX2.toNat }.goto .setd0) := rfl

theorem exec_setd0 (h : s.regW0.toNat ≤ 1024) : exec .setd0 s = .next ((s.memWrite 0 s.regW0).goto .setd1) :=
  setd_accepted (k := .zero) h
theorem exec_setd1 (h : s.regW1.toNat ≤ 1024) : exec .setd1 s = .next ((s.memWrite 1 s.regW1).goto .setd2) :=
  setd_accepted (k := .one) h
theorem exec_setd2 (h : s.regW2.toNat ≤ 1024) : exec .setd2 s = .next ((s.memWrite 2 s.regW2).goto .advance) :=
  setd_accepted (k := .two) h
theorem exec_setd0_refused (h : 1024 < s.regW0.toNat) : exec .setd0 s = .refused .widthAboveMaxDuty :=
  setd_refused (k := .zero) h
theorem exec_setd1_refused (h : 1024 < s.regW1.toNat) : exec .setd1 s = .refused .widthAboveMaxDuty :=
  setd_refused (k := .one) h
theorem exec_setd2_refused (h : 1024 < s.regW2.toNat) : exec .setd2 s = .refused .widthAboveMaxDuty :=
  setd_refused (k := .two) h

theorem exec_advance :
    exec .advance s = .next ({ s with phase := nextPhase referenceConfig s.mode s.phase }.goto .dlyreq) := rfl

theorem exec_dlyreq :
    exec .dlyreq s = .next (({ s with dlyPending := true, dlyMs := 5 }.emit (.waitMs 5)).goto .dlywait) := rfl

theorem exec_dlywait_held (h : s.dlyPending = true) : exec .dlywait s = .next s := by
  simp [exec, execDlywait, h]

theorem exec_dlywait_done (h : s.dlyPending = false) : exec .dlywait s = .next (s.goto .loadp) := by
  simp [exec, execDlywait, h]

theorem exec_reserved0111 : exec .reserved0111 s = .next (s.raiseFault .illStep 7) := rfl
theorem exec_reserved1011 : exec .reserved1011 s = .next (s.raiseFault .illStep 11) := rfl
theorem exec_halt : exec .halt s = .fault .halted := rfl

/-! ### Arithmetic of the counter -/

theorem phaseRange_reference (m : Mode) : phaseRange referenceConfig m = if m = .hue then 360 else 1024 := by
  cases m <;> rfl

/-- The counter's next value as a number. -/
theorem nextPhase_toNat (m : Mode) (p : Phase) :
    (nextPhase referenceConfig m p).toNat = (p.toNat + 1) % phaseRange referenceConfig m := by
  have h : (p.toNat + 1) % phaseRange referenceConfig m < 1024 := by
    cases m <;> simp only [phaseRange, referenceConfig] <;> omega
  simp [nextPhase, Nat.mod_eq_of_lt h]

/-- A clamped width is at most `MAX_DUTY`. -/
theorem clampWidth_toNat (w : Nat) : (clampWidth referenceConfig w).toNat = min w 1024 := by
  have h : min w 1024 < 2048 := by omega
  simp [clampWidth, referenceConfig, Nat.mod_eq_of_lt h]

/-! ### The two outcomes of `Convert` -/

/-- `CONVERT` answers a next state on every state: the three results, or fault entry. -/
theorem exec_convert_cases :
    (∃ r g b, convert s.regH s.regS s.regV = .ok r g b ∧
      exec .convert s = .next ({ s with regR := r, regG := g, regB := b }.goto .scale)) ∨
    (∃ c i, convert s.regH s.regS s.regV = .err c i ∧ exec .convert s = .next (s.raiseFault c i)) := by
  cases h : convert s.regH s.regS s.regV with
  | ok r g b => exact .inl ⟨r, g, b, rfl, exec_convert_ok s h⟩
  | err c i => exact .inr ⟨c, i, rfl, exec_convert_err s h⟩

/-- No error of `Convert` has the cause `NONE`. -/
theorem convert_err_cause {h : Phase} {sat val : Percent} {c : Cause} {i : BitVec 10}
    (hc : convert h sat val = .err c i) : c ≠ .none := by
  unfold convert okRgb at hc
  split_ifs at hc <;> simp at hc <;> rcases hc with ⟨rfl, -⟩ <;> simp

/-- A hue in range at a saturation and value in range converts. -/
theorem convert_ok_of_range {h : Phase} {sat val : Percent} (hh : h.toNat ≤ 360) (hs : sat.toNat ≤ 100)
    (hv : val.toNat ≤ 100) : ∃ r g b, convert h sat val = .ok r g b := by
  have hn : normHue h.toNat < 360 := by unfold normHue; split <;> omega
  unfold convert okRgb
  split_ifs <;> first | omega | exact ⟨_, _, _, rfl⟩

/-! ### Every operation at once -/

/-- What an operation that goes on has done, case by case: the successor state of each operation, with the condition it
was taken under. `HALT` has no case: it never goes on. -/
theorem exec_next_cases {i : Instr} {s t : State} (h : exec i s = .next t) :
   (i = .idle ∧ ((∃ m, s.startInput = some m ∧ t = ({ s with mode := m } : State).goto .loadp) ∨ (s.startInput = none ∧ t = s))) ∨
   (i = .loadp ∧ t = ({ s with regP := s.phase } : State).goto (match s.mode with | .hue => .derivh | .phase => .derivp)) ∨
   (i = .derivh ∧ t = ({ s with regH := s.regP, regS := 80, regV := 80 } : State).goto .convert) ∨
   (i = .derivp ∧ t = ({ s with
      regX0 := BitVec.ofNat 10 ((s.regP.toNat + 0) % 1024)
      regX1 := BitVec.ofNat 10 ((s.regP.toNat + 341) % 1024)
      regX2 := BitVec.ofNat 10 ((s.regP.toNat + 682) % 1024) } : State).goto .wave) ∨
   (i = .convert ∧ ((∃ r g b, convert s.regH s.regS s.regV = .ok r g b ∧ t = ({ s with regR := r, regG := g, regB := b } : State).goto .scale) ∨
     (∃ c inf, convert s.regH s.regS s.regV = .err c inf ∧ t = s.raiseFault c inf))) ∨
   (i = .scale ∧ t = ({ s with
      regW0 := scaleLevel referenceConfig s.regG 512
      regW1 := scaleLevel referenceConfig s.regR 1024
      regW2 := scaleLevel referenceConfig s.regB 512 } : State).goto .setd0) ∨
   (i = .wave ∧ t = ({ s with
      regW0 := clampWidth referenceConfig s.regX0.toNat
      regW1 := clampWidth referenceConfig s.regX1.toNat
      regW2 := clampWidth referenceConfig s.regX2.toNat } : State).goto .setd0) ∨
   (i = .reserved0111 ∧ t = s.raiseFault .illStep 7) ∨
   (i = .setd0 ∧ s.regW0.toNat ≤ 1024 ∧ t = (s.memWrite 0 s.regW0).goto .setd1) ∨
   (i = .setd1 ∧ s.regW1.toNat ≤ 1024 ∧ t = (s.memWrite 1 s.regW1).goto .setd2) ∨
   (i = .setd2 ∧ s.regW2.toNat ≤ 1024 ∧ t = (s.memWrite 2 s.regW2).goto .advance) ∨
   (i = .reserved1011 ∧ t = s.raiseFault .illStep 11) ∨
   (i = .advance ∧ t = ({ s with phase := nextPhase referenceConfig s.mode s.phase } : State).goto .dlyreq) ∨
   (i = .dlyreq ∧ t = (({ s with dlyPending := true, dlyMs := 5 } : State).emit (.waitMs 5)).goto .dlywait) ∨
   (i = .dlywait ∧ ((s.dlyPending = true ∧ t = s) ∨ (s.dlyPending = false ∧ t = s.goto .loadp))) := by
  cases i
  case convert =>
    rcases exec_convert_cases s with ⟨r, g, b, hc, he⟩ | ⟨c, i, hc, he⟩
    · rw [he] at h; injection h with h; simp [hc, h.symm]
    · rw [he] at h; injection h with h; simp [hc, h.symm]
  case idle =>
    cases hh : s.startInput with
    | none => rw [exec_idle_held s hh] at h; injection h with h; simp [h]
    | some m => rw [exec_idle_start s hh] at h; injection h with h; simp [h]
  case dlywait =>
    cases hh : s.dlyPending with
    | true => rw [exec_dlywait_held s hh] at h; injection h with h; simp [h]
    | false => rw [exec_dlywait_done s hh] at h; injection h with h; simp [h]
  case halt => cases h
  case setd0 => obtain ⟨hw, ht⟩ := setd_eq_next h; simp only [reduceCtorEq, false_and, or_false, false_or, true_and]; exact ⟨hw, ht⟩
  case setd1 => obtain ⟨hw, ht⟩ := setd_eq_next h; simp only [reduceCtorEq, false_and, or_false, false_or, true_and]; exact ⟨hw, ht⟩
  case setd2 => obtain ⟨hw, ht⟩ := setd_eq_next h; simp only [reduceCtorEq, false_and, or_false, false_or, true_and]; exact ⟨hw, ht⟩
  all_goals (injection h with h; simp only [reduceCtorEq, false_and, or_false, false_or, true_and]; exact h.symm)

/-- Every operation answers a next state on every state, but for `HALT`, and for a `SETD` of a width above `MAX_DUTY`,
which is refused. -/
theorem exec_next_or_stop (i : Instr) :
    (∃ t, exec i s = .next t) ∨ i = .halt ∨
    (∃ k, i.lane = some k ∧ 1024 < (s.readW k).toNat ∧ exec i s = .refused .widthAboveMaxDuty) := by
  cases i
  case idle => cases hh : s.startInput with
    | none => exact .inl ⟨_, exec_idle_held s hh⟩
    | some m => exact .inl ⟨_, exec_idle_start s hh⟩
  case convert => rcases exec_convert_cases s with ⟨r, g, b, hc, he⟩ | ⟨c, i, hc, he⟩ <;> exact .inl ⟨_, he⟩
  case dlywait => cases hh : s.dlyPending with
    | true => exact .inl ⟨_, exec_dlywait_held s hh⟩
    | false => exact .inl ⟨_, exec_dlywait_done s hh⟩
  case halt => exact .inr (.inl rfl)
  case setd0 => exact (setd_next_or_refused s .zero .setd1).imp_right fun h => .inr ⟨.zero, rfl, h⟩
  case setd1 => exact (setd_next_or_refused s .one .setd2).imp_right fun h => .inr ⟨.one, rfl, h⟩
  case setd2 => exact (setd_next_or_refused s .two .advance).imp_right fun h => .inr ⟨.two, rfl, h⟩
  all_goals exact .inl ⟨_, rfl⟩

end Sys2Proof.Machine
end

