-- ==== Sys2Proof/Laws/Step.lean ====
section
/-! SUPPORT. What one step can do, said once: the step's cases, and the sequencer's turn for each kind of schedule. -/

namespace Sys2Proof.Machine

variable {s t : State}

theorem step_of_empty (h : s.schedule = []) : step s = sequencerTurn s := by
  simp [step, takeTurn, h]

theorem step_of_sequencer {rest : List Turn} (h : s.schedule = .sequencer :: rest) : step s = sequencerTurn s := by
  simp [step, takeTurn, h]

theorem step_of_start {m : Mode} {rest : List Turn} (h : s.schedule = .start m :: rest) :
    step s = if s.op = .idle then sequencerTurn s else .next s.popTurn := by
  simp [step, takeTurn, h, startTurn]

theorem step_of_delayAgent {rest : List Turn} (h : s.schedule = .delayAgent :: rest) :
    step s = .next (delayAgentStep s.popTurn) := by
  simp [step, takeTurn, h]

theorem step_of_reset {rest : List Turn} (h : s.schedule = .reset :: rest) :
    step s = .next (resetAction s.popTurn) := by
  simp [step, takeTurn, h]

/-- A `Start` is offered exactly when a `start` turn stands at the head of the schedule. -/
theorem startInput_eq_some {m : Mode} : s.startInput = some m ↔ ∃ rest, s.schedule = .start m :: rest := by
  unfold State.startInput
  cases h : s.schedule with
  | nil => simp
  | cons a l => cases a <;> simp

/-- Whose turn it was, and what a step that goes on did: the sequencer's operation, an ignored `Start`, the delay agent,
or a reset. -/
theorem step_next_cases (h : step s = .next t) :
    (∃ u, exec s.op s = .next u ∧ t = u.popTurn ∧
      (∀ l, s.schedule ≠ .reset :: l) ∧ (∀ l, s.schedule ≠ .delayAgent :: l)) ∨
    (∃ m l, s.schedule = .start m :: l ∧ s.op ≠ .idle ∧ t = s.popTurn) ∨
    (∃ l, s.schedule = .delayAgent :: l ∧ t = delayAgentStep s.popTurn) ∨
    (∃ l, s.schedule = .reset :: l ∧ t = resetAction s.popTurn) := by
  have seq : sequencerTurn s = .next t → ∃ u, exec s.op s = .next u ∧ t = u.popTurn := fun h => endTurn_eq_next h
  cases hs : s.schedule with
  | nil =>
    obtain ⟨u, hu, ht⟩ := seq (by rw [← step_of_empty hs, h])
    exact .inl ⟨u, hu, ht, by simp, by simp⟩
  | cons a l =>
    cases a with
    | sequencer =>
      obtain ⟨u, hu, ht⟩ := seq (by rw [← step_of_sequencer hs, h])
      exact .inl ⟨u, hu, ht, by simp, by simp⟩
    | delayAgent =>
      rw [step_of_delayAgent hs] at h
      exact .inr (.inr (.inl ⟨l, rfl, by simpa using h.symm⟩))
    | reset =>
      rw [step_of_reset hs] at h
      exact .inr (.inr (.inr ⟨l, rfl, by simpa using h.symm⟩))
    | start m =>
      rw [step_of_start hs] at h
      split at h
      · obtain ⟨u, hu, ht⟩ := seq h
        exact .inl ⟨u, hu, ht, by simp, by simp⟩
      · rename_i hop
        exact .inr (.inl ⟨m, l, rfl, hop, by simpa using h.symm⟩)

/-- `n + 1` steps are one step and then `n`. -/
theorem runSteps_succ {n : Nat} (h : step s = .next t) : runSteps (n + 1) s = runSteps n t := by
  have h' : Host.Core.step Sys2Proof.core s = .next t := h
  simp only [runSteps, Host.Core.run, h']
  rfl

end Sys2Proof.Machine
end

