-- ==== Sys2Proof/Tests/Slice0.lean ====
section
/-! SUPPORT. Small tests, with expected results from the spec's own tables (95_test_vectors.md, the rules' worked
examples, or a hand calculation named in the comment), and a witness for the hypotheses of each statement. -/

namespace Sys2Proof.Tests

open Sys2Proof.Machine

/-- The state of a result that goes on. -/
def nextOf : Result → Option State
  | .next s => some s
  | .fault _ => none
  | .refused _ => none

/-- The reset state with another operation in `STEP`. -/
def at' (i : Instr) : State := { State.reset with stepReg := encode i }

/-- One step from a state with one turn scheduled. -/
def stepOn (turn : Turn) (s : State) : Option State := nextOf (step { s with schedule := [turn] })

/-- A configuration with one weight for all lanes. -/
def withWeight (pct : Nat) : Config := { referenceConfig with wpct := fun _ => pct }

/-! ### Decoding: words written out from 30_encoding.md R62 -/

theorem test_decode_sequencer :
    decode 0b0000#4 = .idle ∧ decode 0b0001#4 = .loadp ∧ decode 0b0010#4 = .derivh ∧ decode 0b0011#4 = .derivp ∧
    decode 0b1100#4 = .advance := by decide
theorem test_decode_converter_and_scaler :
    decode 0b0100#4 = .convert ∧ decode 0b0101#4 = .scale ∧ decode 0b0110#4 = .wave := by decide
theorem test_decode_sink_and_delay :
    decode 0b1000#4 = .setd0 ∧ decode 0b1001#4 = .setd1 ∧ decode 0b1010#4 = .setd2 ∧
    decode 0b1101#4 = .dlyreq ∧ decode 0b1110#4 = .dlywait := by decide
theorem test_decode_system :
    decode 0b1111#4 = .halt ∧ decode 0b0111#4 = .reserved0111 ∧ decode 0b1011#4 = .reserved1011 := by decide
theorem test_decode_rejects_by_name :
    decodeWord 16 = .error .widerThanStep ∧ decodeTableWord 8 16 = none ∧ decodeTableWord 3 9 = none ∧
    decodeTableWord 8 9 = some .setd1 ∧ decodeTableWord 4 15 = some .halt := ⟨rfl, by decide, by decide, by decide, by decide⟩
theorem test_mnemonics_of_frame_p :
    framePhase.map Instr.mnemonic =
      ["LOADP", "DERIVP", "WAVE", "SETD 0", "SETD 1", "SETD 2", "ADVANCE", "DLYREQ", "DLYWAIT"] := by decide

/-! ### Well-formedness: each check refuses an ill-formed term -/

theorem test_wf_reserved_codes : Instr.reserved0111.wf = false ∧ Instr.reserved1011.wf = false := by decide
theorem test_wf_reference : referenceConfig.wf = true := by decide
theorem test_wf_satFixed : ({ referenceConfig with satFixed := 101 } : Config).wf = false := by decide
theorem test_wf_valFixed : ({ referenceConfig with valFixed := 101 } : Config).wf = false := by decide
theorem test_wf_wpct_zero :
    ({ referenceConfig with wpct := fun k => if k = .zero then 256 else 0 } : Config).wf = false := by decide
theorem test_wf_wpct_one :
    ({ referenceConfig with wpct := fun k => if k = .one then 256 else 0 } : Config).wf = false := by decide
theorem test_wf_wpct_two :
    ({ referenceConfig with wpct := fun k => if k = .two then 256 else 0 } : Config).wf = false := by decide
theorem test_wf_hueRange : ({ referenceConfig with hueRange := 361 } : Config).wf = false := by decide
theorem test_wf_maxDuty_low : ({ referenceConfig with maxDuty := 2 } : Config).wf = false := by decide
theorem test_wf_maxDuty_high : ({ referenceConfig with maxDuty := 1025 } : Config).wf = false := by decide
theorem test_wf_frameMs : ({ referenceConfig with frameMs := 65536 } : Config).wf = false := by decide
theorem test_wf_scaleDiv : ({ referenceConfig with scaleDiv := 0 } : Config).wf = false := by decide

/-! ### The converter: 95_test_vectors.md sections 2.1 to 2.6 -/

theorem test_rhaz : rhaz (408 / 10) = 41 ∧ rhaz (255 / 2) = 128 ∧ rhaz (49 / 100) = 0 := by
  refine ⟨?_, ?_, ?_⟩ <;> norm_num [rhaz]
theorem test_convert_primaries :
    convert 0 100 100 = .ok 255 0 0 ∧ convert 120 100 100 = .ok 0 255 0 ∧ convert 240 100 100 = .ok 0 0 255 ∧
    convert 60 100 100 = .ok 255 255 0 ∧ convert 1 80 80 = .ok 204 44 41 := by decide
theorem test_convert_mixed :
    convert 75 60 25 = .ok 54 64 26 ∧ convert 222 25 40 = .ok 77 84 102 ∧ convert 10 37 63 = .ok 161 111 101 ∧
    convert 123 45 67 = .ok 94 171 98 ∧ convert 271 99 99 = .ok 132 3 252 ∧ convert 333 66 33 = .ok 84 29 54 := by decide
theorem test_convert_ties :
    convert 90 50 50 = .ok 96 128 64 ∧ convert 45 50 20 = .ok 51 45 26 ∧ convert 360 80 80 = .ok 204 41 41 := by decide
theorem test_convert_gray :
    convert 200 0 50 = .ok 128 128 128 ∧ convert 1023 0 100 = .ok 255 255 255 ∧ convert 512 0 0 = .ok 0 0 0 := by decide
theorem test_convert_faults :
    convert 0 101 127 = .err .satRange 101 ∧ convert 400 80 101 = .err .valRange 101 ∧
    convert 0 0 101 = .err .valRange 101 ∧ convert 361 1 0 = .err .hueRange 361 := by decide

/-- Program P4: `R`, `G`, `B` kept, `FINFO` 400, `STATUS` = 400 * 16 + 3 * 2 + 1. -/
theorem test_execConvert_fault :
    (nextOf (exec .convert { at' .convert with regH := 400, regS := 80, regV := 80, regR := 204 })).map
      (fun t => (t.regR, t.op, t.status)) = some (204, .halt, 6407) := by decide
theorem test_execConvert_ok :
    (nextOf (exec .convert { at' .convert with regH := 359, regS := 80, regV := 80 })).map
      (fun t => (t.regR, t.regG, t.regB, t.op)) = some (204, 41, 44, .scale) := by decide

/-! ### The scaler: 95_test_vectors.md section 3 -/

theorem test_execScale :
    (nextOf (exec .scale { at' .scale with regR := 204, regG := 44, regB := 41 })).map
      (fun t => (t.regW0, t.regW1, t.regW2)) = some (88, 816, 82) := by decide
theorem test_scale_other_weights :
    scaleLevel (withWeight 33) 200 (weight (withWeight 33) .zero) = 263 ∧
    scaleLevel (withWeight 200) 128 (weight (withWeight 200) .one) = 1024 ∧
    scaleLevel (withWeight 200) 255 (weight (withWeight 200) .two) = 1024 := by decide
theorem test_execWave :
    (nextOf (exec .wave { at' .wave with regX0 := 0, regX1 := 341, regX2 := 682 })).map
      (fun t => (t.regW0, t.regW1, t.regW2)) = some (0, 341, 682) := by decide

/-! ### The sequencer and the interfaces: 95_test_vectors.md section 4 and the rules' worked examples -/

theorem test_execIdle_start :
    (stepOn (.start .phase) (at' .idle)).map (fun t => (t.mode, t.op, t.phase)) = some (.phase, .loadp, 0) := by decide
theorem test_execIdle_held : (stepOn .sequencer (at' .idle)) = some (at' .idle) := by decide
theorem test_start_ignored : (stepOn (.start .hue) (at' .scale)) = some (at' .scale) := by decide
theorem test_execLoadp_modes :
    (nextOf (exec .loadp { at' .loadp with phase := 7 })).map (fun t => (t.regP, t.op)) = some (7, .derivh) ∧
    (nextOf (exec .loadp { at' .loadp with phase := 7, mode := .phase })).map (fun t => (t.regP, t.op)) =
      some (7, .derivp) := by decide
theorem test_execDerivh :
    (nextOf (exec .derivh { at' .derivh with regP := 7 })).map (fun t => (t.regH, t.regS, t.regV)) =
      some (7, 80, 80) := by decide
theorem test_execDerivp :
    (nextOf (exec .derivp { at' .derivp with regP := 683 })).map (fun t => (t.regX0, t.regX1, t.regX2)) =
      some (683, 0, 341) ∧
    (nextOf (exec .derivp { at' .derivp with regP := 1023 })).map (fun t => (t.regX0, t.regX1, t.regX2)) =
      some (1023, 340, 681) := by decide
theorem test_execAdvance_hue :
    (nextOf (exec .advance { at' .advance with phase := 359 })).map (·.phase) = some 0 ∧
    (nextOf (exec .advance { at' .advance with phase := 400 })).map (·.phase) = some 41 := by decide
theorem test_execAdvance_phase :
    (nextOf (exec .advance { at' .advance with phase := 359, mode := .phase })).map (·.phase) = some 360 ∧
    (nextOf (exec .advance { at' .advance with phase := 1023, mode := .phase })).map (·.phase) = some 0 := by decide
theorem test_execSetd0 :
    (nextOf (exec .setd0 { at' .setd0 with regW0 := 82 })).map (fun t => (t.events, t.readCh 0, t.op)) =
      some ([.setDuty 0 82], 82, .setd1) := by decide
theorem test_execSetd1 :
    (nextOf (exec .setd1 { at' .setd1 with regW1 := 816 })).map (fun t => (t.events, t.readCh 1, t.op)) =
      some ([.setDuty 1 816], 816, .setd2) := by decide
theorem test_execSetd2 :
    (nextOf (exec .setd2 { at' .setd2 with ch2 := 5 })).map (fun t => (t.events, t.readCh 2, t.op)) =
      some ([.setDuty 2 0], 0, .advance) := by decide
/-- 93_implementation_defined.md U7: the largest width that is written, 1024, and the smallest that is refused. -/
theorem test_setd_width_limit :
    (nextOf (exec .setd2 { at' .setd2 with regW2 := 1024 })).map (·.readCh 2) = some 1024 ∧
    exec .setd2 { at' .setd2 with regW2 := 1025 } = .refused .widthAboveMaxDuty := ⟨by decide, rfl⟩
theorem test_execDlyreq :
    (nextOf (exec .dlyreq (at' .dlyreq))).map (fun t => (t.events, t.dlyPending, t.dlyMs, t.op)) =
      some ([.waitMs 5], true, 5, .dlywait) := by decide
theorem test_execDlywait :
    (nextOf (exec .dlywait (at' .dlywait))).map (·.op) = some .loadp ∧
    (nextOf (exec .dlywait { at' .dlywait with dlyPending := true })).map (·.op) = some .dlywait := by decide
theorem test_delay_agent : (stepOn .delayAgent { at' .dlywait with dlyPending := true }) = some (at' .dlywait) := by decide
theorem test_execReserved :
    (nextOf (step (at' .reserved0111))).map (fun t => (t.fault, t.cause.code, t.finfo, t.op)) =
      some (true, 4, 7, .halt) ∧
    (nextOf (step (at' .reserved1011))).map (fun t => (t.fault, t.cause.code, t.finfo, t.op)) =
      some (true, 4, 11, .halt) := by decide
theorem test_execHalt : step (at' .halt) = .fault .halted := rfl

/-- Program P5: reset in the middle of a frame; the sink is not reset. -/
theorem test_reset_turn :
    (stepOn .reset { at' .setd2 with ch0 := 82, ch1 := 816, phase := 3, mode := .phase, dlyPending := true }).map
      (fun t => (t.op, t.phase, t.mode, t.dlyPending, t.ch0, t.ch1)) = some (.idle, 0, .hue, false, 82, 816) := by decide
theorem test_reset_leaves_halt :
    (stepOn .reset { at' .halt with fault := true, cause := .hueRange, finfo := 400 }).map
      (fun t => (t.op, t.status)) = some (.idle, 0) := by decide

/-- 70_reset_and_hazards.md R176: a code placed after reset is the operation of the very next step. -/
theorem test_withFetchWord :
    (nextOf (step (State.reset.withFetchWord 8 9))).map (fun t => (t.events, t.op, t.schedule)) =
      some ([.setDuty 1 0], .setd2, []) := by decide

/-! ### Witnesses: states and operands that meet a statement's hypotheses -/

theorem witness_FormatFcCarriesTheChannel : Instr.setd2.lane = some .two := by decide

theorem witness_StepExecutesTheOperationInStep :
    (decode (at' .scale).stepReg = .scale ∧ (at' .scale).schedule = []) ∧
    ({ at' .wave with schedule := [.sequencer] } : State).schedule = .sequencer :: [] ∧
    ({ at' .idle with schedule := [.start .hue] } : State).schedule = .start .hue :: [] ∧
    decode (at' .idle).stepReg = .idle := by decide

theorem witness_IdleLatchesTheModeOnStart :
    ({ State.reset with schedule := [.start .phase] } : State).schedule = .start .phase :: [] ∧
    (∀ m l, State.reset.schedule ≠ .start m :: l) := by
  refine ⟨rfl, ?_⟩
  intro m l h
  cases h

theorem witness_StartOutsideIdleHasNoEffect :
    ({ at' .halt with schedule := [.start .phase] } : State).schedule = .start .phase :: [] ∧
    (at' .halt).stepReg ≠ 0b0000#4 := by decide

theorem witness_ConvertGrayAtZeroSaturation :
    (100 : Percent).toNat ≤ 100 ∧ ({ at' .convert with regV := 100, regH := 1023 } : State).regS = 0 := by decide

/-- The corners of the general case: `H` 0 and 360, `S` 1 and 100, `V` 0 and 100. -/
theorem witness_ConvertWritesTheSectorsRow :
    (1 ≤ (1 : Percent).toNat ∧ (100 : Percent).toNat ≤ 100 ∧ (0 : Percent).toNat ≤ 100 ∧ (360 : Phase).toNat ≤ 360 ∧
      0 = (if (360 : Phase).toNat = 360 then 0 else (360 : Phase).toNat)) ∧
    (359 = (if (359 : Phase).toNat = 360 then 0 else (359 : Phase).toNat)) := by decide

theorem witness_ConvertFaultsOutsideItsDomain :
    100 < (101 : Percent).toNat ∧ ((100 : Percent).toNat ≤ 100 ∧ 100 < (101 : Percent).toNat) ∧
    (1 ≤ (1 : Percent).toNat ∧ (1 : Percent).toNat ≤ 100 ∧ (100 : Percent).toNat ≤ 100 ∧ 361 ≤ (361 : Phase).toNat) := by
  decide

theorem witness_ConvertFollowsThePseudocode :
    (1 = if (1 : Phase).toNat = 360 then 0 else (1 : Phase).toNat) ∧
    hexagonTable (1 / 60) ((51 * 80 + 10) / 20) ((51 * 80 * (100 - 80) + 1000) / 2000)
      ((17 * 80 * (6000 - 80 * (1 % 60)) + 20000) / 40000) ((17 * 80 * (6000 - 80 * (60 - 1 % 60)) + 20000) / 40000) =
      (204, 44, 41) := by decide

theorem witness_ConvertAgreesWithTheRealContract :
    (360 : Phase).toNat ≤ 360 ∧ (100 : Percent).toNat ≤ 100 := by decide

theorem witness_HueWrapsAt360Only :
    normHue (360 : Phase).toNat = normHue (0 : Phase).toNat ∧ 361 ≤ (1023 : Phase).toNat ∧ 1 ≤ (1 : Percent).toNat := by decide

/-- Both ends of the ranges of the converter's arithmetic statements. -/
theorem witness_converter_ranges :
    ((100 ≤ 100) ∧ (59 < 60) ∧ (1 ≤ 1)) ∧ (359 : Phase).toNat < 360 ∧ qNum 1 100 0 = 10220000 ∧ pNum 1 100 = 505900 := by decide

theorem witness_scaler_configurations :
    referenceConfig.wf = true ∧ referenceConfig.scaleDiv = 256 ∧ referenceConfig.wpct .one ≤ 100 ∧
    (withWeight 255).wf = true := by decide

/-- The last hue of the wheel selects the last word of the sector ROM. -/
theorem witness_SectorRomSelectsTheTriples : normHue 359 < 360 ∧ normHue 359 / 60 = 5 := by decide

theorem witness_DlywaitHoldsWhilePending :
    (at' .dlywait).dlyPending = false ∧ ({ at' .dlywait with dlyPending := true } : State).dlyPending = true := by decide

/-- Both sides of the limit, for the three `SETD`s and for the step that a refused one ends in. -/
theorem witness_widths :
    (1024 : Width).toNat ≤ 1024 ∧ Instr.setd0.lane = some .zero ∧
    1024 < (({ at' .setd0 with regW0 := 1025 } : State).readW .zero).toNat ∧
    step { at' .setd0 with regW0 := 1025 } = .refused .widthAboveMaxDuty := ⟨by decide, rfl, by decide, rfl⟩

/-- A step that changes a channel and adds an event. -/
theorem witness_NoWidthAboveMaxDutyIsEverWritten :
    ∃ t, step { at' .setd1 with regW1 := 816 } = .next t ∧ t.readCh 1 ≠ (at' .setd1).readCh 1 ∧
      Event.setDuty 1 816 ∈ t.events := ⟨_, rfl, by decide, by decide⟩

theorem witness_ReservedCodesRaiseIllStep :
    (at' .reserved0111).stepReg = 0b0111#4 ∧ (at' .reserved1011).stepReg = 0b1011#4 := by decide

theorem witness_FaultEntryMakesFourWrites :
    (∃ t, exec .convert { at' .convert with regS := 101 } = .next t ∧ t.fault = true) ∧
    (∃ t, exec .reserved0111 State.reset = .next t ∧ t.fault = true) ∧
    (∃ t, exec .reserved1011 State.reset = .next t ∧ t.fault = true) ∧ State.reset.fault = false :=
  ⟨⟨_, rfl, rfl⟩, ⟨_, rfl, rfl⟩, ⟨_, rfl, rfl⟩, rfl⟩

theorem witness_FaultIsStickyUntilReset :
    (∃ t, step { at' .halt with fault := true, schedule := [.reset] } = .next t ∧ t.fault = false) ∧
    (∃ t, step (at' .reserved0111) = .next t ∧ t.fault = true) := ⟨⟨_, rfl, rfl⟩, ⟨_, rfl, rfl⟩⟩

theorem witness_OnlyResetLeavesHalt :
    (at' .halt).op = .halt ∧
    (∃ t, step { at' .halt with schedule := [.reset] } = .next t ∧ t.op ≠ .halt) ∧
    (∃ t, step { at' .halt with schedule := [.start .hue] } = .next t ∧ t.op = .halt) :=
  ⟨by decide, ⟨_, rfl, by decide⟩, ⟨_, rfl, by decide⟩⟩

/-- The frames: an operation outside each group of writers that goes on, and one inside. -/
theorem witness_frames :
    (∃ t, exec .loadp { State.reset with phase := 7 } = .next t ∧ t.regP ≠ State.reset.regP) ∧
    (∃ t, exec .scale State.reset = .next t) ∧ (∃ t, exec .dlyreq State.reset = .next t) ∧
    (∃ t, exec .setd1 { State.reset with regW1 := 9 } = .next t ∧ t.readCh 1 ≠ State.reset.readCh 1) ∧
    Instr.setd1.lane = some .one ∧ Instr.scale.lane = none :=
  ⟨⟨_, rfl, by decide⟩, ⟨_, rfl⟩, ⟨_, rfl⟩, ⟨_, rfl, by decide⟩, rfl, rfl⟩

theorem witness_SuccessorsFollowTheTable :
    (∃ t, exec (at' .convert).op (at' .convert) = .next t ∧ t.op = .scale) ∧
    (∃ t, exec (at' .setd2).op (at' .setd2) = .next t ∧ t.op = .advance) := ⟨⟨_, rfl, by decide⟩, ⟨_, rfl, by decide⟩⟩

theorem witness_ResetTurnRestoresTheResetValues :
    ({ at' .dlywait with dlyPending := true, schedule := [.reset, .sequencer] } : State).schedule =
      .reset :: [.sequencer] := by decide

theorem witness_DelayAgentEndsThePendingWait :
    ({ at' .dlywait with dlyPending := true, schedule := [.delayAgent] } : State).schedule = .delayAgent :: [] ∧
    ({ at' .dlywait with dlyPending := true } : State).dlyPending = true ∧ (at' .idle).dlyPending = false := by decide

theorem witness_OnlyDelayAgentOrResetEndsTheWait :
    (∃ t, step { at' .dlywait with dlyPending := true, schedule := [.delayAgent] } = .next t ∧ t.dlyPending = false) ∧
    (∃ t, step { at' .dlywait with dlyPending := true, schedule := [.reset] } = .next t ∧ t.op ≠ .dlywait) :=
  ⟨⟨_, rfl, by decide⟩, ⟨_, rfl, by decide⟩⟩

theorem witness_ModeAndPhaseAreOwnedByTheLoop :
    (∃ t, step { at' .idle with schedule := [.start .phase] } = .next t ∧ t.mode ≠ .hue) ∧
    (∃ t, step { at' .loadp with mode := .phase, phase := 9, schedule := [.reset] } = .next t ∧ t.mode ≠ .phase ∧ t.phase ≠ 9) ∧
    (∃ t, step { at' .advance with phase := 9 } = .next t ∧ t.phase ≠ 9) :=
  ⟨⟨_, rfl, by decide⟩, ⟨_, rfl, by decide, by decide⟩, ⟨_, rfl, by decide⟩⟩

theorem witness_SinkHasOneWriter :
    ∃ t, step { at' .setd2 with regW2 := 1024 } = .next t ∧ t.readCh 2 ≠ (at' .setd2).readCh 2 := ⟨_, rfl, by decide⟩

/-- A state in the middle of a hue-mode frame, at the last hue of the wheel. -/
def midFrame : State :=
  { at' .convert with phase := 359, regP := 359, regH := 359, regS := 80, regV := 80 }

theorem witness_StepKeepsTheFaultFreeInvariant : Inv midFrame where
  phase_lt := by decide
  idle_phase := by decide
  phase_copied := by decide
  hue_mode := by decide
  phase_mode := by decide
  hue_operands := by decide
  widths_le := by decide
  events_legal := by simp [midFrame, at', State.reset]
  no_fault := by decide
  op_legal := by decide
  delay_in_wait := by decide

/-- Both disjuncts of the status invariant occur, and a step goes from the first to the second. -/
theorem witness_StepKeepsTheStatusInvariant :
    StatusInv (at' .reserved0111) ∧ ∃ t, step (at' .reserved0111) = .next t ∧ StatusInv t :=
  ⟨.inl (by decide), _, rfl, .inr (by decide)⟩

/-- Two states that differ in every working register, at `LOADP`. -/
def dirty : State :=
  { at' .loadp with
    regP := 1, regH := 2, regS := 3, regV := 4, regR := 5, regG := 6, regB := 7, regX0 := 8, regX1 := 9, regX2 := 10
    regW0 := 11, regW1 := 12, regW2 := 13 }

theorem witness_StepKeepsAgreementOnLiveRegisters : AgreeOnLive (at' .loadp) dirty where
  visible := by unfold SameVisible; decide
  live_p := by decide
  live_hsv := by decide
  live_rgb := by decide
  live_x := by decide
  live_w0 := by decide
  live_w1 := by decide
  live_w2 := by decide

theorem witness_WorkingRegisterContentIsNeverObserved :
    SameVisible (at' .loadp) dirty ∧ (at' .loadp).op ∈ [Instr.idle, .loadp, .advance, .dlyreq, .dlywait, .halt] ∧
    (at' .loadp).regP ≠ dirty.regP := by unfold SameVisible; decide

theorem witness_PhaseCounterWraps :
    ({ State.reset with phase := 359 } : State).phase.toNat < phaseRange referenceConfig .hue ∧
    ({ State.reset with phase := 1023, mode := .phase } : State).phase.toNat < phaseRange referenceConfig .phase := by decide

/-- The schedules of one frame and of two frames in each mode, from `LOADP` at the last phase of the range. -/
theorem witness_frame_schedules :
    ({ at' .loadp with schedule := frameTurns frameHue ++ [.reset] } : State).schedule = frameTurns frameHue ++ [.reset] ∧
    ({ at' .loadp with schedule := framesTurns framePhase 2 ++ [] } : State).schedule = framesTurns framePhase 2 ++ [] ∧
    (at' .loadp).op = .loadp ∧ (at' .loadp).mode = .hue ∧
    ({ at' .loadp with mode := .phase, phase := 1023 } : State).mode = .phase ∧
    ({ at' .loadp with phase := 359 } : State).phase.toNat < 360 ∧ (at' .loadp).dlyPending = false ∧
    frameHue[9]? = some .dlywait ∧ framePhase[8]? = some .dlywait := by decide

end Sys2Proof.Tests
end

/-! SUPPORT. Proofs for the state of CGC (10_state.md): who writes a register, what the status fields do over a step, the
invariant of runs without faults, and what the working registers' reset content can influence. -/

namespace Sys2Proof.Machine

/-! ### The moves of the sequencer -/

/-- The first operation of a mode's producer, where `LOADP` goes (42_frame_sequencer.md R117). -/
def producerEntry : Mode → Instr
  | .hue => .derivh
  | .phase => .derivp

theorem exec_loadp_entry (s : State) :
    exec .loadp s = .next ({ s with regP := s.phase }.goto (producerEntry s.mode)) := rfl

/-- `ExecMove s i t`: executing `i` in `s` goes on, to `t`. The cases of `exec_next_cases` under names; `HALT` has none. -/
inductive ExecMove (s : State) : Instr → State → Prop
  | idleStart {m : Mode} (start : s.startInput = some m) : ExecMove s .idle ({ s with mode := m }.goto .loadp)
  | idleHeld (held : s.startInput = none) : ExecMove s .idle s
  | loadp : ExecMove s .loadp ({ s with regP := s.phase }.goto (producerEntry s.mode))
  | derivh : ExecMove s .derivh ({ s with regH := s.regP, regS := 80, regV := 80 }.goto .convert)
  | derivp : ExecMove s .derivp ({ s with
      regX0 := BitVec.ofNat 10 ((s.regP.toNat + 0) % 1024)
      regX1 := BitVec.ofNat 10 ((s.regP.toNat + 341) % 1024)
      regX2 := BitVec.ofNat 10 ((s.regP.toNat + 682) % 1024) }.goto .wave)
  | convertOk {r g b : Level} (ok : convert s.regH s.regS s.regV = .ok r g b) :
      ExecMove s .convert ({ s with regR := r, regG := g, regB := b }.goto .scale)
  | convertErr {c : Cause} {info : BitVec 10} (err : convert s.regH s.regS s.regV = .err c info) :
      ExecMove s .convert (s.raiseFault c info)
  | scale : ExecMove s .scale ({ s with
      regW0 := scaleLevel referenceConfig s.regG 512
      regW1 := scaleLevel referenceConfig s.regR 1024
      regW2 := scaleLevel referenceConfig s.regB 512 }.goto .setd0)
  | wave : ExecMove s .wave ({ s with
      regW0 := clampWidth referenceConfig s.regX0.toNat
      regW1 := clampWidth referenceConfig s.regX1.toNat
      regW2 := clampWidth referenceConfig s.regX2.toNat }.goto .setd0)
  | reserved0111 : ExecMove s .reserved0111 (s.raiseFault .illStep 7)
  | setd0 (accepted : s.regW0.toNat ≤ 1024) : ExecMove s .setd0 ((s.memWrite 0 s.regW0).goto .setd1)
  | setd1 (accepted : s.regW1.toNat ≤ 1024) : ExecMove s .setd1 ((s.memWrite 1 s.regW1).goto .setd2)
  | setd2 (accepted : s.regW2.toNat ≤ 1024) : ExecMove s .setd2 ((s.memWrite 2 s.regW2).goto .advance)
  | reserved1011 : ExecMove s .reserved1011 (s.raiseFault .illStep 11)
  | advance : ExecMove s .advance ({ s with phase := nextPhase referenceConfig s.mode s.phase }.goto .dlyreq)
  | dlyreq : ExecMove s .dlyreq (({ s with dlyPending := true, dlyMs := 5 }.emit (.waitMs 5)).goto .dlywait)
  | dlywaitHeld (pending : s.dlyPending = true) : ExecMove s .dlywait s
  | dlywaitDone (done : s.dlyPending = false) : ExecMove s .dlywait (s.goto .loadp)

section Moves
variable {s t : State} {i : Instr}

theorem execMove_of_exec_eq_next (h : exec i s = .next t) : ExecMove s i t := by
  rcases exec_next_cases h with
    ⟨rfl, ⟨m, hm, rfl⟩ | ⟨hm, rfl⟩⟩ | ⟨rfl, rfl⟩ | ⟨rfl, rfl⟩ | ⟨rfl, rfl⟩ |
    ⟨rfl, ⟨r, g, b, hc, rfl⟩ | ⟨c, info, hc, rfl⟩⟩ | ⟨rfl, rfl⟩ | ⟨rfl, rfl⟩ | ⟨rfl, rfl⟩ |
    ⟨rfl, hw, rfl⟩ | ⟨rfl, hw, rfl⟩ | ⟨rfl, hw, rfl⟩ | ⟨rfl, rfl⟩ | ⟨rfl, rfl⟩ | ⟨rfl, rfl⟩ |
    ⟨rfl, ⟨hp, rfl⟩ | ⟨hp, rfl⟩⟩
  · exact .idleStart hm
  · exact .idleHeld hm
  · exact .loadp
  · exact .derivh
  · exact .derivp
  · exact .convertOk hc
  · exact .convertErr hc
  · exact .scale
  · exact .wave
  · exact .reserved0111
  · exact .setd0 hw
  · exact .setd1 hw
  · exact .setd2 hw
  · exact .reserved1011
  · exact .advance
  · exact .dlyreq
  · exact .dlywaitHeld hp
  · exact .dlywaitDone hp

/-! ### Who writes a register -/

/-- Settles O39: each move either keeps a working register or is one of its writers. -/
theorem workingRegistersHaveTheirWriters : Obligations.WorkingRegistersHaveTheirWriters := by
  intro i s t h
  cases execMove_of_exec_eq_next h <;> simp

/-- Settles O40, move by move. -/
theorem specialRegistersHaveTheirWriters : Obligations.SpecialRegistersHaveTheirWriters := by
  intro i s t h
  cases execMove_of_exec_eq_next h <;> simp

end Moves

/-! ### The status fields -/

section Status
variable {s t : State} {i : Instr}

/-- The status over one operation: fault entry by `CONVERT` or a reserved code, or nothing of it changes and `HALT` is
neither entered nor left (10_state.md R17, 60_exceptions.md R150). -/
theorem exec_fault_entry_or_keep (hi : s.op = i) (h : exec i s = .next t) :
    (∃ c info, c ≠ .none ∧ (i = .convert ∨ i = .reserved0111 ∨ i = .reserved1011) ∧ t = s.raiseFault c info) ∨
    (t.fault = s.fault ∧ t.cause = s.cause ∧ t.finfo = s.finfo ∧ (t.op = .halt ↔ s.op = .halt)) := by
  cases execMove_of_exec_eq_next h
  case convertErr err => exact .inl ⟨_, _, convert_err_cause err, by simp, rfl⟩
  case reserved0111 => exact .inl ⟨_, _, by simp, by simp, rfl⟩
  case reserved1011 => exact .inl ⟨_, _, by simp, by simp, rfl⟩
  case loadp => exact .inr (by cases hm : s.mode <;> simp [hi, producerEntry])
  all_goals exact .inr (by simp [hi])

/-- The status over one step of any agent: fault entry, nothing, or reset. -/
theorem step_status_cases (h : step s = .next t) :
    (∃ c info, c ≠ .none ∧ (s.op = .convert ∨ s.op = .reserved0111 ∨ s.op = .reserved1011) ∧
      t = (s.raiseFault c info).popTurn) ∨
    (t.fault = s.fault ∧ t.cause = s.cause ∧ t.finfo = s.finfo ∧ (t.op = .halt ↔ s.op = .halt)) ∨
    (∃ l, s.schedule = .reset :: l ∧ t = resetAction s.popTurn) := by
  rcases step_next_cases h with ⟨u, hu, rfl, -, -⟩ | ⟨m, l, -, -, rfl⟩ | ⟨l, -, rfl⟩ | ⟨l, hl, rfl⟩
  · rcases exec_fault_entry_or_keep rfl hu with ⟨c, info, hc, hop, rfl⟩ | keep
    · exact .inl ⟨c, info, hc, hop, rfl⟩
    · exact .inr (.inl keep)
  · exact .inr (.inl (by simp))
  · exact .inr (.inl (by simp))
  · exact .inr (.inr ⟨l, hl, rfl⟩)

/-- Settles O36: fault entry sets `FAULT` and halts, reset clears it, and any other step keeps it. -/
theorem faultIsStickyUntilReset : Obligations.FaultIsStickyUntilReset := by
  intro s t h
  rcases step_status_cases h with ⟨c, info, -, hop, rfl⟩ | ⟨hf, -⟩ | ⟨l, hl, rfl⟩
  · exact ⟨by simp, fun _ _ => ⟨by simp, hop⟩⟩
  · rw [hf]
    exact ⟨fun h1 h0 => by simp [h1] at h0, fun h0 h1 => by simp [h0] at h1⟩
  · exact ⟨fun _ _ => ⟨l, hl⟩, by simp⟩

/-- Settles O51: fault entry leads to the second disjunct, reset to the first, and any other step keeps the disjunct. -/
theorem stepKeepsTheStatusInvariant : Obligations.StepKeepsTheStatusInvariant := by
  intro s t hs h
  rcases step_status_cases h with ⟨c, info, hc, -, rfl⟩ | ⟨hf, hc, hi, hop⟩ | ⟨l, -, rfl⟩
  · exact .inr (by simp [hc])
  · simpa [StatusInv, hf, hc, hi, hop] using hs
  · exact .inl (by simp)

end Status

/-- Settles O35: each field of `STATUS`, bit by bit. -/
theorem statusWordLayout : Obligations.StatusWordLayout := by
  intro s
  refine ⟨?_, ?_, ?_, rfl, rfl, rfl, rfl, rfl⟩
  all_goals
    refine BitVec.eq_of_getLsbD_eq fun i hi => ?_
    simp only [BitVec.getLsbD_extractLsb', status_getLsbD, hi, decide_true, Bool.true_and]
  · rw [if_pos (by omega), Nat.zero_add]
  · rw [if_neg (by omega), if_pos (by omega), Nat.add_sub_cancel_left]
  · rw [if_neg (by omega), if_neg (by omega)]
    congr 1; omega

/-- Settles O43: the fields of `State.reset`. -/
theorem resetValues : Obligations.ResetValues := ⟨rfl, rfl, rfl, rfl, rfl, rfl, rfl, rfl, rfl⟩

/-! ### The mode and the counter over a whole step -/

section ModeAndPhase
variable {s t : State} {i : Instr}

/-- An operation keeps the mode, or it is `IDLE` and latches the mode of a `Start`. -/
theorem exec_mode_kept_or_latched (h : exec i s = .next t) :
    t.mode = s.mode ∨ (i = .idle ∧ ∃ m, s.startInput = some m ∧ t.mode = m) := by
  cases execMove_of_exec_eq_next h
  case idleStart start => exact .inr ⟨rfl, _, start, rfl⟩
  all_goals exact .inl (by simp)

/-- An operation other than `ADVANCE` keeps the counter. -/
theorem exec_phase_kept (h : exec i s = .next t) (hi : i ≠ .advance) : t.phase = s.phase :=
  (specialRegistersHaveTheirWriters i s t h).1 hi

/-- Settles O47: beside reset, only the sequencer's operation touches the two registers. -/
theorem modeAndPhaseAreOwnedByTheLoop : Obligations.ModeAndPhaseAreOwnedByTheLoop := by
  intro s t h
  rcases step_next_cases h with ⟨u, hu, rfl, -, -⟩ | ⟨m, l, -, -, rfl⟩ | ⟨l, -, rfl⟩ | ⟨l, hl, -⟩
  · constructor
    · intro hne
      rcases exec_mode_kept_or_latched hu with keep | ⟨hop, m, start, hm⟩
      · exact absurd keep hne
      · obtain ⟨l, hl⟩ := startInput_eq_some.mp start
        exact .inr ⟨hop, m, l, hl, hm⟩
    · intro hne
      exact .inr (by_contra fun hop => hne ((popTurn_phase u).trans (exec_phase_kept hu hop)))
  · exact ⟨fun hne => absurd rfl hne, fun hne => absurd rfl hne⟩
  · exact ⟨fun hne => absurd (by simp) hne, fun hne => absurd (by simp) hne⟩
  · exact ⟨fun _ => .inl ⟨l, hl⟩, fun _ => .inl ⟨l, hl⟩⟩

end ModeAndPhase

/-! ### Runs that never fault -/
section FaultFree
variable {s t : State} {i : Instr}

/-- What `Inv` says of a state in every operation (10_state.md R28). -/
structure InvCommon (s : State) : Prop where
  phase_lt : s.phase.toNat < phaseRange referenceConfig s.mode
  events_legal : ∀ e ∈ s.events, e.legal
  no_fault : s.fault = false ∧ s.cause = .none ∧ s.finfo = 0

/-- The converter's operands as `DERIVH` leaves them (42_frame_sequencer.md R118). -/
def HueOperands (s : State) : Prop := s.regH = s.regP ∧ s.regH.toNat < 360 ∧ s.regS = 80 ∧ s.regV = 80

/-- The three widths are widths that the sink accepts. -/
def WidthsLe (s : State) : Prop := s.regW0.toNat ≤ 1024 ∧ s.regW1.toNat ≤ 1024 ∧ s.regW2.toNat ≤ 1024

/-- What `Inv` says of the registers in the one operation `i`. -/
def InvAt (s : State) : Instr → Prop
  | .idle => s.phase = 0
  | .loadp => True
  | .derivh => s.regP = s.phase ∧ s.mode = .hue
  | .derivp | .wave => s.regP = s.phase ∧ s.mode = .phase
  | .convert | .scale => s.regP = s.phase ∧ s.mode = .hue ∧ HueOperands s
  | .setd0 | .setd1 | .setd2 | .advance => s.regP = s.phase ∧ (s.mode = .hue → HueOperands s) ∧ WidthsLe s
  | .dlyreq | .dlywait => (s.mode = .hue → HueOperands s) ∧ WidthsLe s
  | .halt | .reserved0111 | .reserved1011 => False

/-- `Inv` sorted by operation: what holds in every one, what the one in `STEP` adds, and where the delay can pend. -/
theorem inv_iff : Inv s ↔ InvCommon s ∧ InvAt s s.op ∧ (s.dlyPending = true → s.op = .dlywait) := by
  constructor
  · intro h
    have hops : s.mode = .hue → s.op ∈ afterDerivh → HueOperands s := h.hue_operands
    have hwidths : s.op ∈ afterProducer → WidthsLe s := h.widths_le
    obtain ⟨hlt, hidle, hcopy, hhue, hphase, -, -, hev, hf, hlegal, hd⟩ := h
    refine ⟨⟨hlt, hev, hf⟩, ?_, hd⟩
    cases hi : s.op <;>
      simp_all [InvAt, afterLoad, hueProducer, phaseProducer, afterDerivh, afterProducer]
  · rintro ⟨⟨hlt, hev, hf⟩, hat, hd⟩
    have hops : s.mode = .hue → s.op ∈ afterDerivh → HueOperands s := by
      cases hi : s.op <;> simp_all [InvAt, afterDerivh]
    have hwidths : s.op ∈ afterProducer → WidthsLe s := by
      cases hi : s.op <;> simp_all [InvAt, afterProducer]
    refine ⟨hlt, ?_, ?_, ?_, ?_, hops, hwidths, hev, hf, ?_, hd⟩
    all_goals
      clear hops hwidths
      cases hi : s.op <;> simp_all [InvAt, afterLoad, hueProducer, phaseProducer]

/-- Where `goto` leads decides which clause of `InvAt` is asked for. -/
theorem inv_goto (hc : InvCommon s) (hat : InvAt s i) (hd : s.dlyPending = true → i = .dlywait) : Inv (s.goto i) :=
  inv_iff.mpr ⟨⟨hc.phase_lt, hc.events_legal, hc.no_fault⟩, by rw [op_goto]; cases i <;> exact hat, by simpa using hd⟩

theorem phaseRange_pos (m : Mode) : 0 < phaseRange referenceConfig m := by cases m <;> decide

/-- Phase 0 is in the range of both modes. -/
theorem phase_lt_of_eq_zero (h : s.phase = 0) (m : Mode) : s.phase.toNat < phaseRange referenceConfig m := by
  rw [h]
  exact phaseRange_pos m

/-- A state that idles at phase 0, with no wait, no fault and no illegal event, meets the invariant. -/
theorem inv_of_idle (hop : s.op = .idle) (hphase : s.phase = 0) (hdly : s.dlyPending = false)
    (hf : s.fault = false ∧ s.cause = .none ∧ s.finfo = 0) (hev : ∀ e ∈ s.events, e.legal) : Inv s := by
  exact inv_iff.mpr ⟨⟨phase_lt_of_eq_zero hphase _, hev, hf⟩, by rw [hop]; exact hphase, by simp [hdly]⟩

/-- What `WAVE` writes is a width that the sink accepts. -/
theorem clampWidth_le (w : Nat) : (clampWidth referenceConfig w).toNat ≤ 1024 := by
  rw [clampWidth_toNat]
  exact Nat.min_le_right _ _

/-- What `SCALE` writes is a width that the sink accepts. -/
theorem scaleLevel_le (x : Level) (wt : Nat) : (scaleLevel referenceConfig x wt).toNat ≤ 1024 := clampWidth_le _

theorem nextPhase_lt (m : Mode) (p : Phase) :
    (nextPhase referenceConfig m p).toNat < phaseRange referenceConfig m := by
  rw [nextPhase_toNat]
  exact Nat.mod_lt _ (phaseRange_pos m)

/-- A store of an accepted width to a used channel keeps what `Inv` says in every operation. -/
theorem invCommon_memWrite {c : ChannelId} {w : Width} (hc : InvCommon s) (hch : c ≠ 3) (hw : w.toNat ≤ 1024) :
    InvCommon (s.memWrite c w) where
  phase_lt := by simpa using hc.phase_lt
  events_legal := by simpa using ⟨⟨hch, hw⟩, hc.events_legal⟩
  no_fault := by simpa using hc.no_fault

theorem invAt_memWrite {c : ChannelId} {w : Width} : InvAt (s.memWrite c w) i ↔ InvAt s i := by
  cases i <;> simp [InvAt, HueOperands, WidthsLe]

/-- The store of a `SETD` and the way to its successor keep the invariant, as far as the successor asks no more of the
registers than the `SETD` did. -/
theorem inv_memWrite_goto {c : ChannelId} {w : Width} (hc : InvCommon s) (hat : InvAt s i) (hd : s.dlyPending = false)
    (hch : c ≠ 3) (hw : w.toNat ≤ 1024) : Inv ((s.memWrite c w).goto i) :=
  inv_goto (invCommon_memWrite hc hch hw) (invAt_memWrite.mpr hat) (by simp [hd])

theorem invAt_producerEntry {m : Mode} (hp : s.regP = s.phase) (hm : s.mode = m) : InvAt s (producerEntry m) := by
  cases m <;> exact ⟨hp, hm⟩

/-- The sequencer's operation goes on and keeps the invariant (10_state.md R28). -/
theorem exec_keeps_inv (h : Inv s) : ∃ u, exec s.op s = .next u ∧ Inv u := by
  obtain ⟨⟨hlt, hev, hf⟩, hat, hd⟩ := inv_iff.mp h
  have hc : InvCommon s := ⟨hlt, hev, hf⟩
  have hdly : s.op ≠ .dlywait → s.dlyPending = false := fun hne => by simpa using mt hd hne
  generalize hi : s.op = i at hat hdly
  cases i with
  | idle =>
    cases hs : s.startInput with
    | none => exact ⟨_, exec_idle_held s hs, h⟩
    | some m =>
      have hcommon : InvCommon { s with mode := m } := ⟨phase_lt_of_eq_zero hat m, hev, hf⟩
      exact ⟨_, exec_idle_start s hs, inv_goto hcommon trivial (by simp [hdly])⟩
  | loadp =>
    exact ⟨_, exec_loadp_entry s, inv_goto ⟨hlt, hev, hf⟩ (invAt_producerEntry rfl rfl) (by simp [hdly])⟩
  | derivh =>
    obtain ⟨hp, hm⟩ := hat
    have hlt' : s.regP.toNat < 360 := by rw [hp]; rwa [hm] at hlt
    exact ⟨_, exec_derivh s, inv_goto ⟨hlt, hev, hf⟩ ⟨hp, hm, rfl, hlt', rfl, rfl⟩ (by simp [hdly])⟩
  | derivp => exact ⟨_, exec_derivp s, inv_goto ⟨hlt, hev, hf⟩ hat (by simp [hdly])⟩
  | convert =>
    have ⟨_, _, _, hH, hS, hV⟩ := hat
    obtain ⟨r, g, b, hok⟩ : ∃ r g b, convert s.regH s.regS s.regV = .ok r g b :=
      convert_ok_of_range (by omega) (by rw [hS]; decide) (by rw [hV]; decide)
    exact ⟨_, exec_convert_ok s hok, inv_goto ⟨hlt, hev, hf⟩ hat (by simp [hdly])⟩
  | scale =>
    obtain ⟨hp, -, hops⟩ := hat
    exact ⟨_, exec_scale s, inv_goto ⟨hlt, hev, hf⟩
      ⟨hp, fun _ => hops, scaleLevel_le _ _, scaleLevel_le _ _, scaleLevel_le _ _⟩ (by simp [hdly])⟩
  | wave =>
    obtain ⟨hp, hm⟩ := hat
    exact ⟨_, exec_wave s, inv_goto ⟨hlt, hev, hf⟩
      ⟨hp, fun hue => by simp [hm] at hue, clampWidth_le _, clampWidth_le _, clampWidth_le _⟩ (by simp [hdly])⟩
  | setd0 =>
    have ⟨_, _, hw, _, _⟩ := hat
    exact ⟨_, exec_setd0 s hw, inv_memWrite_goto hc hat (hdly (by simp)) (by decide) hw⟩
  | setd1 =>
    have ⟨_, _, _, hw, _⟩ := hat
    exact ⟨_, exec_setd1 s hw, inv_memWrite_goto hc hat (hdly (by simp)) (by decide) hw⟩
  | setd2 =>
    have ⟨_, _, _, _, hw⟩ := hat
    exact ⟨_, exec_setd2 s hw, inv_memWrite_goto hc hat (hdly (by simp)) (by decide) hw⟩
  | advance =>
    obtain ⟨-, hat'⟩ := hat
    exact ⟨_, exec_advance s, inv_goto ⟨nextPhase_lt _ _, hev, hf⟩ hat' (by simp [hdly])⟩
  | dlyreq =>
    have hev' : ∀ e ∈ Event.waitMs 5 :: s.events, e.legal := by simpa [Event.legal] using hev
    exact ⟨_, exec_dlyreq s, inv_goto ⟨hlt, hev', hf⟩ hat (fun _ => rfl)⟩
  | dlywait =>
    cases hs : s.dlyPending with
    | true => exact ⟨_, exec_dlywait_held s hs, h⟩
    | false => exact ⟨_, exec_dlywait_done s hs, inv_goto hc trivial (by simp [hs])⟩
  | halt => exact hat.elim
  | reserved0111 => exact hat.elim
  | reserved1011 => exact hat.elim

/-- The invariant does not speak of the schedule. -/
theorem Inv.popTurn (h : Inv s) : Inv s.popTurn := { h with }

theorem Inv.delayAgentStep (h : Inv s) : Inv (delayAgentStep s) := by
  unfold Machine.delayAgentStep
  split
  · exact { h with delay_in_wait := fun hp => nomatch hp }
  · exact h

/-- Reset meets the invariant from every state whose record of events is legal. -/
theorem inv_resetAction (hev : ∀ e ∈ s.events, e.legal) : Inv (resetAction s) :=
  inv_of_idle (op_resetAction s) rfl rfl ⟨rfl, rfl, rfl⟩ hev

theorem sequencerTurn_keeps_inv (h : Inv s) : ∃ t, sequencerTurn s = .next t ∧ Inv t := by
  obtain ⟨u, hu, hinv⟩ := exec_keeps_inv h
  exact ⟨u.popTurn, by rw [sequencerTurn, hu, endTurn_next], hinv.popTurn⟩

/-- Settles O50, agent by agent. -/
theorem stepKeepsTheFaultFreeInvariant : Obligations.StepKeepsTheFaultFreeInvariant := by
  intro s h
  cases hs : s.schedule with
  | nil => rw [step_of_empty hs]; exact sequencerTurn_keeps_inv h
  | cons turn rest =>
    cases turn with
    | sequencer => rw [step_of_sequencer hs]; exact sequencerTurn_keeps_inv h
    | delayAgent => exact ⟨_, step_of_delayAgent hs, h.popTurn.delayAgentStep⟩
    | reset => exact ⟨_, step_of_reset hs, inv_resetAction h.events_legal⟩
    | start m =>
      rw [step_of_start hs]
      split
      · exact sequencerTurn_keeps_inv h
      · exact ⟨_, rfl, h.popTurn⟩

/-- Settles O49: the reset state idles at phase 0 with an empty record of events. -/
theorem resetMeetsTheInvariants : Obligations.ResetMeetsTheInvariants := by
  intro l
  have hop : ({ State.reset with schedule := l } : State).op = .idle := decode_encode .idle
  exact ⟨inv_of_idle hop rfl rfl ⟨rfl, rfl, rfl⟩ (by simp [State.reset]), .inl ⟨rfl, rfl, rfl, by simp [hop]⟩⟩

end FaultFree

/-! ### The reset content of the working registers -/
section Noninterference
variable {s t : State} {i : Instr}

/-! What `SameVisible` gives, and the operations that keep it. -/

theorem SameVisible.op_eq (h : SameVisible s t) : s.op = t.op := by
  obtain ⟨hstep, -⟩ := h
  simp [State.op, hstep]

theorem SameVisible.phase_eq (h : SameVisible s t) : s.phase = t.phase := by
  obtain ⟨-, hphase, -⟩ := h
  exact hphase

theorem SameVisible.mode_eq (h : SameVisible s t) : s.mode = t.mode := by
  obtain ⟨-, -, hmode, -⟩ := h
  exact hmode

theorem SameVisible.dlyPending_eq (h : SameVisible s t) : s.dlyPending = t.dlyPending := by
  obtain ⟨-, -, -, -, -, -, hdly, -⟩ := h
  exact hdly

theorem SameVisible.schedule_eq (h : SameVisible s t) : s.schedule = t.schedule := by
  obtain ⟨-, -, -, -, -, -, -, -, -, -, -, -, -, hsched⟩ := h
  exact hsched

theorem SameVisible.startInput_eq (h : SameVisible s t) : s.startInput = t.startInput := by
  simp [State.startInput, h.schedule_eq]

theorem SameVisible.goto (h : SameVisible s t) (i : Instr) : SameVisible (s.goto i) (t.goto i) := by
  simp_all [SameVisible]

theorem SameVisible.emit (h : SameVisible s t) (e : Event) : SameVisible (s.emit e) (t.emit e) := by
  simp_all [SameVisible]

theorem SameVisible.memWrite (h : SameVisible s t) (c : ChannelId) (w : Width) :
    SameVisible (s.memWrite c w) (t.memWrite c w) := by
  simp_all [SameVisible, memWrite_ch]

theorem SameVisible.raiseFault (h : SameVisible s t) (c : Cause) (info : BitVec 10) :
    SameVisible (s.raiseFault c info) (t.raiseFault c info) := by
  simp_all [SameVisible]

theorem SameVisible.popTurn (h : SameVisible s t) : SameVisible s.popTurn t.popTurn := by
  simp_all [SameVisible]

theorem SameVisible.delayAgentStep (h : SameVisible s t) : SameVisible (delayAgentStep s) (delayAgentStep t) := by
  simp_all [SameVisible]

/-- Reset draws free values for the working registers alone. -/
theorem SameVisible.resetAction (h : SameVisible s t) : SameVisible (resetAction s) (resetAction t) := by
  simp_all [SameVisible]

/-- The two states agree on the working registers that operation `i`, or one after it in the frame, reads
(10_state.md R13). -/
def LiveEq (s t : State) : Instr → Prop
  | .derivh | .derivp => s.regP = t.regP
  | .convert => s.regH = t.regH ∧ s.regS = t.regS ∧ s.regV = t.regV
  | .scale => s.regR = t.regR ∧ s.regG = t.regG ∧ s.regB = t.regB
  | .wave => s.regX0 = t.regX0 ∧ s.regX1 = t.regX1 ∧ s.regX2 = t.regX2
  | .setd0 => s.regW0 = t.regW0 ∧ s.regW1 = t.regW1 ∧ s.regW2 = t.regW2
  | .setd1 => s.regW1 = t.regW1 ∧ s.regW2 = t.regW2
  | .setd2 => s.regW2 = t.regW2
  | .idle | .loadp | .advance | .dlyreq | .dlywait | .halt | .reserved0111 | .reserved1011 => True

theorem agreeOnLive_iff : AgreeOnLive s t ↔ SameVisible s t ∧ LiveEq s t s.op := by
  constructor
  · rintro ⟨hv, hp, hhsv, hrgb, hx, hw0, hw1, hw2⟩
    refine ⟨hv, ?_⟩
    cases hi : s.op <;> simp_all [LiveEq]
  · rintro ⟨hv, hl⟩
    refine ⟨hv, ?_, ?_, ?_, ?_, ?_, ?_, ?_⟩ <;> cases hi : s.op <;> simp_all [LiveEq]

theorem agreeOnLive_goto (hv : SameVisible s t) (hl : LiveEq s t i) : AgreeOnLive (s.goto i) (t.goto i) :=
  agreeOnLive_iff.mpr ⟨hv.goto i, by rw [op_goto]; cases i <;> exact hl⟩

theorem agreeOnLive_raiseFault (hv : SameVisible s t) (c : Cause) (info : BitVec 10) :
    AgreeOnLive (s.raiseFault c info) (t.raiseFault c info) :=
  agreeOnLive_iff.mpr ⟨hv.raiseFault c info, by rw [op_raiseFault]; trivial⟩

theorem liveEq_memWrite {c : ChannelId} {w : Width} :
    LiveEq (s.memWrite c w) (t.memWrite c w) i ↔ LiveEq s t i := by
  cases i <;> simp [LiveEq]

theorem liveEq_delayAgentStep : LiveEq (delayAgentStep s) (delayAgentStep t) i ↔ LiveEq s t i := by
  cases i <;> simp [LiveEq]

/-- A `SETD` of equal widths is accepted in both states or refused in both. -/
theorem setd_agree {k : Lane} (hv : SameVisible s t) (hw : s.readW k = t.readW k) (hl : LiveEq s t i) :
    OutcomesRelated AgreeOnLive (setd k i s) (setd k i t) := by
  rcases Nat.lt_or_ge 1024 (s.readW k).toNat with h | h
  · rw [setd_refused h, setd_refused (hw ▸ h)]
    exact rfl
  · rw [setd_accepted h, setd_accepted (hw ▸ h), ← hw]
    exact agreeOnLive_goto (hv.memWrite _ _) (liveEq_memWrite.mpr hl)

/-- `CONVERT` on equal operands: the same three results in both states, or the same fault. -/
theorem exec_convert_agree (hv : SameVisible s t) (hl : LiveEq s t .convert) :
    OutcomesRelated AgreeOnLive (exec .convert s) (exec .convert t) := by
  obtain ⟨hH, hS, hV⟩ := hl
  rcases exec_convert_cases s with ⟨r, g, b, hc, hs⟩ | ⟨c, info, hc, hs⟩ <;> rw [hH, hS, hV] at hc
  · rw [hs, exec_convert_ok t hc]
    exact agreeOnLive_goto hv ⟨rfl, rfl, rfl⟩
  · rw [hs, exec_convert_err t hc]
    exact agreeOnLive_raiseFault hv c info

/-- An operation reads no register that is dead before it, and leaves equal what its successor reads. -/
theorem exec_agree (h : AgreeOnLive s t) : OutcomesRelated AgreeOnLive (exec s.op s) (exec s.op t) := by
  obtain ⟨hv, hl⟩ := agreeOnLive_iff.mp h
  generalize s.op = i at hl
  cases i with
  | idle =>
    have hstart := hv.startInput_eq
    cases hs : s.startInput with
    | none =>
      rw [exec_idle_held s hs, exec_idle_held t (hstart ▸ hs)]
      exact h
    | some m =>
      rw [exec_idle_start s hs, exec_idle_start t (hstart ▸ hs)]
      exact agreeOnLive_goto (by simp_all [SameVisible]) trivial
  | loadp =>
    have hentry : LiveEq { s with regP := s.phase } { t with regP := t.phase } (producerEntry t.mode) := by
      cases t.mode <;> exact hv.phase_eq
    rw [exec_loadp_entry, exec_loadp_entry, congrArg producerEntry hv.mode_eq]
    exact agreeOnLive_goto hv hentry
  | derivh => exact agreeOnLive_goto hv ⟨hl, rfl, rfl⟩
  | derivp =>
    have hp : s.regP = t.regP := hl
    rw [exec_derivp, exec_derivp, hp]
    exact agreeOnLive_goto hv ⟨rfl, rfl, rfl⟩
  | convert => exact exec_convert_agree hv hl
  | scale =>
    obtain ⟨hR, hG, hB⟩ := hl
    rw [exec_scale, exec_scale, hR, hG, hB]
    exact agreeOnLive_goto hv ⟨rfl, rfl, rfl⟩
  | wave =>
    obtain ⟨hX0, hX1, hX2⟩ := hl
    rw [exec_wave, exec_wave, hX0, hX1, hX2]
    exact agreeOnLive_goto hv ⟨rfl, rfl, rfl⟩
  | setd0 => exact setd_agree (k := .zero) hv hl.1 hl.2
  | setd1 => exact setd_agree (k := .one) hv hl.1 hl.2
  | setd2 => exact setd_agree (k := .two) hv hl trivial
  | advance =>
    rw [exec_advance, exec_advance, hv.mode_eq, hv.phase_eq]
    exact agreeOnLive_goto (by simp_all [SameVisible]) trivial
  | dlyreq =>
    rw [exec_dlyreq, exec_dlyreq]
    exact agreeOnLive_goto (.emit (by simp_all [SameVisible]) _) trivial
  | dlywait =>
    have hdly := hv.dlyPending_eq
    cases hs : s.dlyPending with
    | true =>
      rw [exec_dlywait_held s hs, exec_dlywait_held t (hdly ▸ hs)]
      exact h
    | false =>
      rw [exec_dlywait_done s hs, exec_dlywait_done t (hdly ▸ hs)]
      exact agreeOnLive_goto hv trivial
  | reserved0111 => exact agreeOnLive_raiseFault hv _ _
  | reserved1011 => exact agreeOnLive_raiseFault hv _ _
  | halt => exact rfl

theorem AgreeOnLive.popTurn (h : AgreeOnLive s t) : AgreeOnLive s.popTurn t.popTurn :=
  { h with visible := h.visible.popTurn }

theorem AgreeOnLive.delayAgentStep (h : AgreeOnLive s t) : AgreeOnLive (delayAgentStep s) (delayAgentStep t) := by
  obtain ⟨hv, hl⟩ := agreeOnLive_iff.mp h
  exact agreeOnLive_iff.mpr ⟨hv.delayAgentStep, by rw [op_delayAgentStep]; exact liveEq_delayAgentStep.mpr hl⟩

/-- After reset no working register is live. -/
theorem agreeOnLive_resetAction (hv : SameVisible s t) : AgreeOnLive (resetAction s) (resetAction t) :=
  agreeOnLive_iff.mpr ⟨hv.resetAction, by rw [op_resetAction]; trivial⟩

theorem endTurn_agree {a b : Result} (h : OutcomesRelated AgreeOnLive a b) :
    OutcomesRelated AgreeOnLive (endTurn a) (endTurn b) := by
  cases a <;> cases b
  case next.next => exact AgreeOnLive.popTurn h
  all_goals exact h

theorem sequencerTurn_agree (h : AgreeOnLive s t) : OutcomesRelated AgreeOnLive (sequencerTurn s) (sequencerTurn t) := by
  rw [sequencerTurn, sequencerTurn, ← h.visible.op_eq]
  exact endTurn_agree (exec_agree h)

/-- Settles O52: the same agent moves in both states, and each agent keeps the agreement. -/
theorem stepKeepsAgreementOnLiveRegisters : Obligations.StepKeepsAgreementOnLiveRegisters := by
  intro s t h
  have hsched := h.visible.schedule_eq
  cases hs : s.schedule with
  | nil =>
    rw [step_of_empty hs, step_of_empty (hsched ▸ hs)]
    exact sequencerTurn_agree h
  | cons turn rest =>
    have ht : t.schedule = turn :: rest := hsched ▸ hs
    cases turn with
    | sequencer =>
      rw [step_of_sequencer hs, step_of_sequencer ht]
      exact sequencerTurn_agree h
    | delayAgent =>
      rw [step_of_delayAgent hs, step_of_delayAgent ht]
      exact h.popTurn.delayAgentStep
    | reset =>
      rw [step_of_reset hs, step_of_reset ht]
      exact agreeOnLive_resetAction h.popTurn.visible
    | start m =>
      rw [step_of_start hs, step_of_start ht, ← h.visible.op_eq]
      split
      · exact sequencerTurn_agree h
      · exact h.popTurn

theorem runSteps_succ_fault {n : Nat} {f : Fault} (h : step s = .fault f) : runSteps (n + 1) s = .fault f := by
  have h' : Host.Core.step Sys2Proof.core s = .fault f := h
  simp only [runSteps, Host.Core.run, h']
  rfl

theorem runSteps_succ_refused {n : Nat} {r : Refusal} (h : step s = .refused r) :
    runSteps (n + 1) s = .refused r := by
  have h' : Host.Core.step Sys2Proof.core s = .refused r := h
  simp only [runSteps, Host.Core.run, h']
  rfl

/-- Agreement on the live registers carried over any number of steps. -/
theorem runSteps_agree (n : Nat) : ∀ {s t : State}, AgreeOnLive s t →
    OutcomesRelated AgreeOnLive (runSteps n s) (runSteps n t) := by
  induction n with
  | zero => exact fun h => h
  | succ n ih =>
    intro s t h
    have hstep := stepKeepsAgreementOnLiveRegisters s t h
    cases hs : step s <;> cases ht : step t <;> rw [hs, ht] at hstep
    case next.next => rw [runSteps_succ hs, runSteps_succ ht]; exact ih hstep
    case fault.fault => rw [runSteps_succ_fault hs, runSteps_succ_fault ht]; exact hstep
    case refused.refused => rw [runSteps_succ_refused hs, runSteps_succ_refused ht]; exact hstep
    all_goals exact hstep.elim

theorem OutcomesRelated.mono {r r' : State → State → Prop} (hr : ∀ s t, r s t → r' s t) {a b : Result}
    (h : OutcomesRelated r a b) : OutcomesRelated r' a b := by
  cases a <;> cases b
  case next.next => exact hr _ _ h
  all_goals exact h

/-- Where no working register is live, agreement on the live registers is agreement on the visible state. -/
theorem agreeOnLive_of_no_live (hv : SameVisible s t)
    (hop : s.op ∈ [Instr.idle, .loadp, .advance, .dlyreq, .dlywait, .halt]) : AgreeOnLive s t := by
  refine agreeOnLive_iff.mpr ⟨hv, ?_⟩
  cases hi : s.op <;> simp_all [LiveEq]

/-- Settles O53: at such a place the states agree on the live registers, and every step keeps that. -/
theorem workingRegisterContentIsNeverObserved : Obligations.WorkingRegisterContentIsNeverObserved :=
  fun n _ _ hv hop => (runSteps_agree n (agreeOnLive_of_no_live hv hop)).mono fun _ _ h => h.visible

end Noninterference

end Sys2Proof.Machine

/-! SUPPORT. Proofs for the memory of CGC, the sink's channels (20_memory.md): what one store does, which operations
store, and the width limit. -/

namespace Sys2Proof.Machine

/-! ### One store -/

/-- Settles O29: the channels one by one, and the read-back law `readCh_memWrite`. -/
theorem memWriteIsOneActionOnOneChannel : Obligations.MemWriteIsOneActionOnOneChannel := by
  refine fun s c w => ⟨?_, fun d => readCh_memWrite s c d w⟩
  rcases channelId_cases c with rfl | rfl | rfl | rfl <;> rfl

/-- The used channels are 0, 1 and 2 (20_memory.md R47). -/
theorem laneChannel_ne_three (k : Lane) : laneChannel k ≠ 3 := by
  cases k <;> decide

section Sink
variable {s t : State} {i : Instr} {k : Lane}

/-- Every channel of the sink reads in `t` as it did in `s`. -/
def SameChannels (s t : State) : Prop := ∀ c : ChannelId, t.readCh c = s.readCh c

/-- From `s` to `t` the sink has taken the one store of `W[k]` to lane `k`'s channel, with its event (20_memory.md R40). -/
structure LaneStored (s : State) (k : Lane) (t : State) : Prop where
  channels : ∀ c : ChannelId, t.readCh c = if c = laneChannel k then s.readW k else s.readCh c
  events : t.events = .setDuty (laneChannel k) (s.readW k) :: s.events

theorem laneStored_memWrite_goto (s : State) (k : Lane) (i : Instr) :
    LaneStored s k ((s.memWrite (laneChannel k) (s.readW k)).goto i) where
  channels c := by simp
  events := by simp

theorem LaneStored.readCh_laneChannel (h : LaneStored s k t) : t.readCh (laneChannel k) = s.readW k :=
  (h.channels _).trans (if_pos rfl)

theorem LaneStored.readCh_of_ne (h : LaneStored s k t) {c : ChannelId} (hc : c ≠ laneChannel k) :
    t.readCh c = s.readCh c :=
  (h.channels c).trans (if_neg hc)

/-- The channel that a store changes is its lane's. -/
theorem LaneStored.eq_laneChannel (h : LaneStored s k t) {c : ChannelId} (hc : t.readCh c ≠ s.readCh c) :
    c = laneChannel k :=
  by_contra fun hne => hc (h.readCh_of_ne hne)

/-! ### Who stores -/

/-- The sink over one operation: the store of the operation's lane, of a width that the sink accepts; or, for an operation
without a lane, no store, and no event but `DLYREQ`'s (43_pwm_and_delay.md R135, R137, R143). -/
theorem exec_sink_cases (h : exec i s = .next t) :
    (∃ k, i.lane = some k ∧ (s.readW k).toNat ≤ 1024 ∧ LaneStored s k t) ∨
    (i.lane = none ∧ SameChannels s t ∧
      (t.events = s.events ∨ (i = .dlyreq ∧ t.events = .waitMs 5 :: s.events))) := by
  cases execMove_of_exec_eq_next h
  case setd0 accepted => exact .inl ⟨.zero, rfl, accepted, laneStored_memWrite_goto s .zero _⟩
  case setd1 accepted => exact .inl ⟨.one, rfl, accepted, laneStored_memWrite_goto s .one _⟩
  case setd2 accepted => exact .inl ⟨.two, rfl, accepted, laneStored_memWrite_goto s .two _⟩
  case dlyreq => exact .inr ⟨rfl, fun _ => rfl, .inr ⟨rfl, rfl⟩⟩
  all_goals exact .inr ⟨rfl, fun _ => rfl, .inl rfl⟩

/-- The sink over one step of any agent: only the sequencer's operation reaches it. -/
theorem step_sink_cases (h : step s = .next t) :
    (∃ k, s.op.lane = some k ∧ (s.readW k).toNat ≤ 1024 ∧ LaneStored s k t) ∨
    (SameChannels s t ∧ (t.events = s.events ∨ (s.op = .dlyreq ∧ t.events = .waitMs 5 :: s.events))) := by
  rcases step_next_cases h with ⟨u, hu, rfl, -, -⟩ | ⟨m, l, -, -, rfl⟩ | ⟨l, -, rfl⟩ | ⟨l, -, rfl⟩
  · rcases exec_sink_cases hu with ⟨k, hk, hw, stored⟩ | ⟨-, same, hev⟩
    · exact .inl ⟨k, hk, hw, stored.channels, stored.events⟩
    · exact .inr ⟨same, hev⟩
  · exact .inr ⟨fun _ => rfl, .inl rfl⟩
  · exact .inr ⟨fun c => by simp, .inl (by simp)⟩
  · exact .inr ⟨fun _ => rfl, .inl rfl⟩

/-- Settles O41: an operation with a lane makes that lane's store, one without a lane makes none. -/
theorem onlySetdStores : Obligations.OnlySetdStores := by
  intro i s t h
  rcases exec_sink_cases h with ⟨k, hk, -, stored⟩ | ⟨hnone, same, hev⟩
  · refine ⟨fun k' hk' => ?_, fun hnone => by simp [hk] at hnone⟩
    obtain rfl : k = k' := Option.some.inj (hk.symm.trans hk')
    exact ⟨stored.readCh_laneChannel, fun _ hc => stored.readCh_of_ne hc, stored.events⟩
  · refine ⟨fun k hk => by simp [hnone] at hk, fun _ => ⟨same, fun hi => ?_⟩⟩
    exact hev.resolve_right fun ⟨hreq, _⟩ => hi hreq

/-- Settles O48: a step stores for the lane of its operation, which is never channel 3, or keeps the sink. -/
theorem sinkHasOneWriter : Obligations.SinkHasOneWriter := by
  intro s t h
  rcases step_sink_cases h with ⟨k, hk, -, stored⟩ | ⟨same, hev⟩
  · refine ⟨stored.readCh_of_ne (laneChannel_ne_three k).symm, fun c hc => ?_, .inr (.inl ⟨k, hk, stored.events⟩)⟩
    obtain rfl := stored.eq_laneChannel hc
    exact ⟨k, hk, rfl, stored.readCh_laneChannel⟩
  · exact ⟨same 3, fun c hc => absurd (same c) hc, hev.imp_right .inr⟩

/-! ### The width limit -/

/-- A step stores no width above `MAX_DUTY` (20_memory.md R46). -/
theorem step_changed_channel_le (h : step s = .next t) {c : ChannelId} (hc : t.readCh c ≠ s.readCh c) :
    (t.readCh c).toNat ≤ 1024 := by
  rcases step_sink_cases h with ⟨k, -, hw, stored⟩ | ⟨same, -⟩
  · obtain rfl := stored.eq_laneChannel hc
    rwa [stored.readCh_laneChannel]
  · exact absurd (same c) hc

/-- A step emits legal events only (70_reset_and_hazards.md R182). -/
theorem step_new_event_legal (h : step s = .next t) {e : Event} (he : e ∈ t.events) : e ∈ s.events ∨ e.legal := by
  rcases step_sink_cases h with ⟨k, -, hw, stored⟩ | ⟨-, hev | ⟨-, hev⟩⟩
  · rw [stored.events] at he
    rcases List.mem_cons.mp he with rfl | hold
    · exact .inr ⟨laneChannel_ne_three k, hw⟩
    · exact .inl hold
  · exact .inl (hev ▸ he)
  · rw [hev] at he
    rcases List.mem_cons.mp he with rfl | hold
    · exact .inr trivial
    · exact .inl hold

/-- Settles O60: the refusal of `SETD` bounds what a step stores and emits, the clamp what `SCALE` and `WAVE` leave. -/
theorem noWidthAboveMaxDutyIsEverWritten : Obligations.NoWidthAboveMaxDutyIsEverWritten := by
  refine ⟨fun s t h => ⟨fun c => step_changed_channel_le h, fun e => step_new_event_legal h⟩, ?_⟩
  rintro i s (rfl | rfl)
  · exact ⟨_, exec_scale s, fun k => by cases k <;> exact scaleLevel_le _ _⟩
  · exact ⟨_, exec_wave s, fun k => by cases k <;> exact clampWidth_le _⟩

end Sink

end Sys2Proof.Machine

/-! SUPPORT. Proofs for the encoding of CGC (30_encoding.md): the decoder and the encoder, the operation in `STEP`, the
sector ROM, and the operations that a frame passes through. -/

namespace Sys2Proof.Machine

/-! ### The decoder and the encoder -/

/-- The opcode map read in both directions (30_encoding.md R62). -/
theorem decode_eq_iff {c : Code} {i : Instr} : decode c = i ↔ c = encode i :=
  ⟨fun h => h ▸ (encode_decode c).symm, fun h => h ▸ decode_encode i⟩

/-- A number names an operation exactly when it is that operation's code. -/
theorem decodeWord_eq_ok_iff {w : Nat} {i : Instr} : decodeWord w = .ok i ↔ w = (encode i).toNat := by
  unfold decodeWord
  split
  case isTrue h =>
    rw [Except.ok.injEq, decode_eq_iff, ← BitVec.toNat_inj, BitVec.toNat_ofNat, Nat.mod_eq_of_lt h]
  case isFalse h =>
    have hcode : (encode i).toNat < 16 := (encode i).isLt
    simp only [reduceCtorEq, false_iff]
    omega

/-- The decoder of table words accepts the numbers that fit their own bits and name an operation. -/
theorem decodeTableWord_eq_some_iff {nbits w : Nat} {i : Instr} :
    decodeTableWord nbits w = some i ↔ w < 2 ^ nbits ∧ decodeWord w = .ok i := by
  unfold decodeTableWord
  cases decodeWord w <;> simp

/-- Settles O3: a table word is accepted as `i` when it fits and is the code of `i`. -/
theorem decodeAndEncodeAgree : Obligations.DecodeAndEncodeAgree := by
  refine ⟨fun nbits w i => ?_, fun _ _ => decode_eq_iff⟩
  rw [decodeTableWord_eq_some_iff, decodeWord_eq_ok_iff, and_comm]

/-- The two reserved codes are the ones that carry no operation (30_encoding.md R63). -/
theorem wf_eq_false_iff {i : Instr} : i.wf = false ↔ i = .reserved0111 ∨ i = .reserved1011 := by
  cases i <;> simp [Instr.wf]

theorem format_eq_fc_iff {i : Instr} :
    i.format = .fc ↔ i = .setd0 ∨ i = .setd1 ∨ i = .setd2 ∨ i = .reserved1011 := by
  cases i <;> simp [Instr.format]

/-- Settles O1: the sixteen codes one by one, and the two groups of operations. -/
theorem opcodeMapDecodes : Obligations.OpcodeMapDecodes :=
  ⟨rfl, rfl, rfl, rfl, rfl, rfl, rfl, rfl, rfl, rfl, rfl, rfl, rfl, rfl, rfl, rfl,
    fun _ => wf_eq_false_iff, fun _ => format_eq_fc_iff⟩

/-- Format FC is bits 3:2 of the code (30_encoding.md R60). -/
theorem format_eq_fc_iff_encode {i : Instr} : i.format = .fc ↔ (encode i).extractLsb' 2 2 = 0b10#2 := by
  cases i <;> decide

/-- Bits 1:0 of the code of a `SETD` are its channel (30_encoding.md R66). -/
theorem encode_low_of_lane {i : Instr} {k : Lane} (h : i.lane = some k) :
    i.format = .fc ∧ (encode i).extractLsb' 0 2 = laneChannel k := by
  cases i <;> cases h <;> exact ⟨rfl, rfl⟩

/-- Settles O2: a code is the code of the operation that it decodes to. -/
theorem formatFcCarriesTheChannel : Obligations.FormatFcCarriesTheChannel := by
  refine ⟨fun c => ?_, fun _ _ => encode_low_of_lane⟩
  rw [format_eq_fc_iff_encode, encode_decode]

/-! ### The operation in `STEP` -/

section StepOperation
variable {s : State}

/-- The turns that the sequencer takes in `s`: its own, and that of a `Start` which `IDLE` consumes. -/
def SequencerMoves (s : State) : Prop :=
  s.schedule = [] ∨ (∃ l, s.schedule = .sequencer :: l) ∨ (s.op = .idle ∧ ∃ m l, s.schedule = .start m :: l)

theorem step_of_sequencerMoves (h : SequencerMoves s) : step s = sequencerTurn s := by
  rcases h with hs | ⟨l, hs⟩ | ⟨hop, m, l, hs⟩
  · exact step_of_empty hs
  · exact step_of_sequencer hs
  · rw [step_of_start hs, if_pos hop]

/-- Settles O4: such a step is the sequencer's turn. -/
theorem stepExecutesTheOperationInStep : Obligations.StepExecutesTheOperationInStep := by
  rintro s i rfl hmoves
  rw [step_of_sequencerMoves hmoves, sequencerTurn, State.op]
  cases exec (decode s.stepReg) s <;> rfl

/-- Placing the code of `i` changes `STEP` and puts the sequencer's turn in front. -/
theorem withFetchWord_encode (s : State) (nbits : Nat) (i : Instr) :
    s.withFetchWord nbits (encode i).toNat =
      { s with stepReg := encode i, schedule := .sequencer :: s.schedule } := by
  simp [State.withFetchWord, State.placeCode]

/-- Settles O5: in the state with the placed code, `STEP` decodes to `i` and it is the sequencer's turn. -/
theorem placedCodeIsExecutedNext : Obligations.PlacedCodeIsExecutedNext := by
  intro s nbits i
  rw [withFetchWord_encode]
  exact stepExecutesTheOperationInStep _ i (decode_encode i) (.inr (.inl ⟨_, rfl⟩))

end StepOperation

/-! ### The sector ROM -/

section SectorRom
variable {α : Type} (v p q t : α)

/-! The select codes and the document's triples (30_encoding.md R69). -/

@[simp] theorem pick_zero : pick v p q t 0 = v := rfl
@[simp] theorem pick_one : pick v p q t 1 = p := rfl
@[simp] theorem pick_two : pick v p q t 2 = q := rfl
@[simp] theorem pick_three : pick v p q t 3 = t := rfl

@[simp] theorem selectRgb_zero : selectRgb 0 v p q t = (v, t, p) := rfl
@[simp] theorem selectRgb_one : selectRgb 1 v p q t = (q, v, p) := rfl
@[simp] theorem selectRgb_two : selectRgb 2 v p q t = (p, v, t) := rfl
@[simp] theorem selectRgb_three : selectRgb 3 v p q t = (p, q, v) := rfl
@[simp] theorem selectRgb_four : selectRgb 4 v p q t = (t, p, v) := rfl
@[simp] theorem selectRgb_five : selectRgb 5 v p q t = (v, p, q) := rfl

end SectorRom

/-- Settles O22: the words and triples by the tables, the index by division. -/
theorem sectorRomSelectsTheTriples : Obligations.SectorRomSelectsTheTriples :=
  ⟨rfl, rfl, rfl, rfl, rfl, rfl, fun H h => by omega, fun v p q t =>
    ⟨pick_zero v p q t, pick_one v p q t, pick_two v p q t, pick_three v p q t, fun _ => rfl,
      selectRgb_zero v p q t, selectRgb_one v p q t, selectRgb_two v p q t,
      selectRgb_three v p q t, selectRgb_four v p q t, selectRgb_five v p q t⟩⟩

/-! ### The operations of a frame -/

/-- The next-step table within one frame (42_frame_sequencer.md R121): where each operation up to `DLYREQ` goes in a mode. -/
def frameSucc (m : Mode) : Instr → Option Instr
  | .loadp => some (producerEntry m)
  | .derivh => some .convert
  | .derivp => some .wave
  | .convert => some .scale
  | .scale | .wave => some .setd0
  | .setd0 => some .setd1
  | .setd1 => some .setd2
  | .setd2 => some .advance
  | .advance => some .dlyreq
  | .dlyreq => some .dlywait
  | .idle | .dlywait | .halt | .reserved0111 | .reserved1011 => none

/-- `ops` follows the next-step table of mode `m`. -/
def FollowsTable (m : Mode) (ops : List Instr) : Prop := ops.IsChain fun i j => frameSucc m i = some j

theorem frameHue_followsTable : FollowsTable .hue frameHue := by unfold FollowsTable; decide

theorem framePhase_followsTable : FollowsTable .phase framePhase := by unfold FollowsTable; decide

/-- `s` stands at operation `i` of a frame in mode `m`, with the registers that `i` reads in range. It says nothing of
the status, the delay and the events, so it holds of more states than `Inv`. -/
structure InFrame (m : Mode) (i : Instr) (s : State) : Prop where
  op_eq : s.op = i
  mode_eq : s.mode = m
  phase_lt : s.phase.toNat < phaseRange referenceConfig m
  registers : InvAt s i

section Frame
variable {s t : State} {m : Mode} {i j : Instr}

theorem inFrame_goto (hm : s.mode = m) (hlt : s.phase.toNat < phaseRange referenceConfig m) (hat : InvAt s i) :
    InFrame m i (s.goto i) :=
  ⟨op_goto s i, hm, hlt, by cases i <;> exact hat⟩

theorem inFrame_memWrite_goto {c : ChannelId} {w : Width} (hm : s.mode = m)
    (hlt : s.phase.toNat < phaseRange referenceConfig m) (hat : InvAt s i) : InFrame m i ((s.memWrite c w).goto i) :=
  inFrame_goto (by simpa using hm) (by simpa using hlt) (invAt_memWrite.mpr hat)

theorem InFrame.popTurn (h : InFrame m i s) : InFrame m i s.popTurn := { h with }

/-- An operation of a frame goes on, to its successor in the table. -/
theorem exec_frameSucc (h : InFrame m i s) (hj : frameSucc m i = some j) :
    ∃ u, exec i s = .next u ∧ InFrame m j u := by
  obtain ⟨-, hm, hlt, hat⟩ := h
  cases i <;> cases hj
  case loadp => exact ⟨_, exec_loadp_entry s, hm ▸ inFrame_goto rfl (hm ▸ hlt) (invAt_producerEntry rfl rfl)⟩
  case derivh =>
    obtain ⟨hp, hhue⟩ := hat
    have hlt' : s.regP.toNat < 360 := by rw [hp]; rwa [← hm, hhue] at hlt
    exact ⟨_, exec_derivh s, inFrame_goto hm hlt ⟨hp, hhue, rfl, hlt', rfl, rfl⟩⟩
  case derivp => exact ⟨_, exec_derivp s, inFrame_goto hm hlt hat⟩
  case convert =>
    have ⟨_, _, _, hH, hS, hV⟩ := hat
    obtain ⟨r, g, b, hok⟩ : ∃ r g b, convert s.regH s.regS s.regV = .ok r g b :=
      convert_ok_of_range (by omega) (by rw [hS]; decide) (by rw [hV]; decide)
    exact ⟨_, exec_convert_ok s hok, inFrame_goto hm hlt hat⟩
  case scale =>
    obtain ⟨hp, -, hops⟩ := hat
    exact ⟨_, exec_scale s, inFrame_goto hm hlt
      ⟨hp, fun _ => hops, scaleLevel_le _ _, scaleLevel_le _ _, scaleLevel_le _ _⟩⟩
  case wave =>
    obtain ⟨hp, hphase⟩ := hat
    exact ⟨_, exec_wave s, inFrame_goto hm hlt
      ⟨hp, fun hue => by simp [hphase] at hue, clampWidth_le _, clampWidth_le _, clampWidth_le _⟩⟩
  case setd0 =>
    have ⟨_, _, hw, _, _⟩ := hat
    exact ⟨_, exec_setd0 s hw, inFrame_memWrite_goto hm hlt hat⟩
  case setd1 =>
    have ⟨_, _, _, hw, _⟩ := hat
    exact ⟨_, exec_setd1 s hw, inFrame_memWrite_goto hm hlt hat⟩
  case setd2 =>
    have ⟨_, _, _, _, hw⟩ := hat
    exact ⟨_, exec_setd2 s hw, inFrame_memWrite_goto hm hlt hat⟩
  case advance =>
    obtain ⟨-, hat'⟩ := hat
    exact ⟨_, exec_advance s, inFrame_goto hm (hm ▸ nextPhase_lt _ _) hat'⟩
  case dlyreq => exact ⟨_, exec_dlyreq s, inFrame_goto hm hlt hat⟩

/-- The sequencer's operation does not touch the schedule (log 1). -/
theorem exec_schedule (h : exec i s = .next t) : t.schedule = s.schedule := by
  obtain ⟨-, -, -, -, hsched, -⟩ := specialRegistersHaveTheirWriters i s t h
  exact hsched

/-- One turn of the sequencer inside a frame. -/
theorem step_frameSucc {l : List Turn} (h : InFrame m i s) (hj : frameSucc m i = some j)
    (hs : s.schedule = .sequencer :: l) : ∃ t, step s = .next t ∧ InFrame m j t ∧ t.schedule = l := by
  obtain ⟨u, hu, hframe⟩ := exec_frameSucc h hj
  refine ⟨u.popTurn, ?_, hframe.popTurn, by simp [exec_schedule hu, hs]⟩
  rw [step_of_sequencer hs, sequencerTurn, h.op_eq, hu, endTurn_next]

/-- `k` turns of the sequencer along operations that follow the table lead to the `k`-th of them. -/
theorem runSteps_followsTable {l : List Turn} {ops : List Instr} (k : Nat) (h : InFrame m i s)
    (hops : FollowsTable m (i :: ops)) (hs : s.schedule = List.replicate k .sequencer ++ l)
    (hj : (i :: ops)[k]? = some j) : ∃ t, runSteps k s = .next t ∧ InFrame m j t := by
  induction k generalizing s i ops with
  | zero =>
    obtain rfl : i = j := by simpa using hj
    exact ⟨s, rfl, h⟩
  | succ k ih =>
    cases ops with
    | nil => simp at hj
    | cons i' ops =>
      obtain ⟨hi', hops'⟩ := List.isChain_cons_cons.mp hops
      obtain ⟨u, hstep, hu, hsched⟩ := step_frameSucc h hi' hs
      rw [runSteps_succ hstep]
      exact ih hu hops' hsched hj

/-- A frame's schedule begins with the sequencer's turns up to any one of its operations. -/
theorem frameTurns_eq_replicate_append {ops : List Instr} {k : Nat} (hk : k < ops.length) :
    ∃ l, frameTurns ops = List.replicate k .sequencer ++ l := by
  obtain ⟨d, hd⟩ := Nat.exists_eq_add_of_le (Nat.le_sub_one_of_lt hk)
  exact ⟨_, by rw [frameTurns, hd, List.replicate_add, List.append_assoc]⟩

/-- `k` steps into the schedule of a frame the sequencer stands at its `k`-th operation. -/
theorem runSteps_frameTurns {l : List Turn} {ops : List Instr} {k : Nat} (h : InFrame m i s)
    (hops : FollowsTable m (i :: ops)) (hs : s.schedule = frameTurns (i :: ops) ++ l) (hj : (i :: ops)[k]? = some j) :
    ∃ t, runSteps k s = .next t ∧ t.op = j := by
  obtain ⟨hk, -⟩ := List.getElem?_eq_some_iff.mp hj
  obtain ⟨rest, hrest⟩ := frameTurns_eq_replicate_append hk
  obtain ⟨t, ht, hframe⟩ := runSteps_followsTable k h hops (by rw [hs, hrest, List.append_assoc]) hj
  exact ⟨t, ht, hframe.op_eq⟩

end Frame

/-- Settles O59: both pseudo-operations follow the table from `LOADP`, which reads no register that has to be in range. -/
theorem framesExpandThePseudoOperations : Obligations.FramesExpandThePseudoOperations := by
  refine ⟨rfl, rfl, fun s l k i hop hm hlt hs hk => ?_, fun s l k i hop hm hs hk => ?_⟩
  · exact runSteps_frameTurns ⟨hop, hm, hlt, trivial⟩ frameHue_followsTable hs hk
  · exact runSteps_frameTurns ⟨hop, hm, s.phase.isLt, trivial⟩ framePhase_followsTable hs hk

end Sys2Proof.Machine

/-! SUPPORT. Proofs for the converter of CGC (40_color_converter.md): the hexagon table, the four intermediate values and
their order, the cases of `Convert`, and the agreement with the document's algorithm over the rationals. -/

namespace Sys2Proof.Machine

/-! ### The hexagon table -/

section Hexagon

variable {α β : Type}

/-- The sector ROM realises the printed table (40_color_converter.md R87). -/
theorem hexagonTable_eq_selectRgb (dh : Fin 6) (v p q t : Nat) : hexagonTable dh v p q t = selectRgb dh v p q t := by
  fin_cases dh <;> rfl

/-- A selection commutes with a function applied to all four values. -/
theorem pick_map (f : α → β) (v p q t : α) (sel : BitVec 2) : pick (f v) (f p) (f q) (f t) sel = f (pick v p q t sel) := by
  unfold pick; split_ifs <;> rfl

/-- A bound on all four values bounds the selected one. -/
theorem pick_le {v p q t n : Nat} (hv : v ≤ n) (hp : p ≤ n) (hq : q ≤ n) (ht : t ≤ n) (sel : BitVec 2) :
    pick v p q t sel ≤ n := by
  unfold pick; split_ifs <;> assumption

/-- Where `q` has reached `v` and `t` is `p`, at the start of a sector, the selection is that of the end of the sector
before it, where `q` has reached `p` and `t` is `v` (40_color_converter.md R94). -/
theorem selectRgb_succ_start (dh : Fin 6) (v p : α) : selectRgb (dh + 1) v p v p = selectRgb dh v p p v := by
  fin_cases dh <;> rfl

end Hexagon

/-! ### The four intermediate values

`t` at a fraction is `q` at the remaining fraction, and `q` falls from `v` at fraction 0 to `p` at fraction 60. The order
of the values and their agreement at the sectors' boundaries follow from these facts. -/

section Values

variable (S V : Nat)

theorem tNum_eq_qNum (f60 : Nat) : tNum S V f60 = qNum S V (60 - f60) := rfl

theorem t255_eq_q255 (f60 : Nat) : t255 S V f60 = q255 S V (60 - f60) := rfl

theorem qNum_zero : qNum S V 0 = 2000 * vNum V := by rw [qNum, vNum, Nat.mul_zero]; omega

theorem qNum_sixty : qNum S V 60 = 20 * pNum S V := by
  have h : 6000 - S * 60 = 60 * (100 - S) := by omega
  rw [qNum, pNum, h]; ring

theorem q255_zero : q255 S V 0 = v255 V := by
  rw [q255, qNum_zero]; exact Nat.mul_div_mul_left _ 20 (by decide : 0 < 2000)

theorem q255_sixty : q255 S V 60 = p255 S V := by
  rw [q255, qNum_sixty]; exact Nat.mul_div_mul_left _ 2000 (by decide : 0 < 20)

theorem qNum_antitone : Antitone (qNum S V) := fun f g h => by
  unfold qNum; gcongr

theorem q255_antitone : Antitone (q255 S V) := fun _ _ h => Nat.div_le_div_right (qNum_antitone S V h)

variable {S V} {f60 : Nat}

theorem q255_le_v255 : q255 S V f60 ≤ v255 V := q255_zero S V ▸ q255_antitone S V f60.zero_le

theorem t255_le_v255 : t255 S V f60 ≤ v255 V := q255_le_v255

theorem p255_le_q255 (hf : f60 ≤ 60) : p255 S V ≤ q255 S V f60 := q255_sixty S V ▸ q255_antitone S V hf

theorem p255_le_t255 : p255 S V ≤ t255 S V f60 := p255_le_q255 (Nat.sub_le 60 f60)

theorem p255_le_v255 : p255 S V ≤ v255 V := (p255_le_q255 (Nat.zero_le 60)).trans q255_le_v255

theorem v255_le (hV : V ≤ 100) : v255 V ≤ 255 := by unfold v255 vNum; omega

/-- Whatever the sector selects fits the 8-bit ports. -/
theorem sectorRgb_le (dh : Fin 6) (hV : V ≤ 100) :
    (sectorRgb dh S V f60).1 ≤ 255 ∧ (sectorRgb dh S V f60).2.1 ≤ 255 ∧ (sectorRgb dh S V f60).2.2 ≤ 255 := by
  have hpick (sel : BitVec 2) : pick (v255 V) (p255 S V) (q255 S V f60) (t255 S V f60) sel ≤ 255 :=
    (pick_le le_rfl p255_le_v255 q255_le_v255 t255_le_v255 sel).trans (v255_le hV)
  exact ⟨hpick _, hpick _, hpick _⟩

end Values

/-- Settles O19: `q` falls from `v` to `p` over a sector, and `t` is `q` read backwards. -/
theorem sectorValuesAreOrdered : Obligations.SectorValuesAreOrdered := fun _ _ _ _ hV hf =>
  ⟨p255_le_q255 hf.le, p255_le_t255, q255_le_v255, t255_le_v255, v255_le hV⟩

/-- Settles O20: `q`'s numerator, hence `t`'s, is greatest at fraction 0, where it is 2000 times `v`'s. -/
theorem datapathFitsItsWidths : Obligations.DatapathFitsItsWidths := by
  intro S V f60 hS hS' hV _
  have hv : vNum V ≤ 5110 := by unfold vNum; omega
  have hp : pNum S V ≤ 505900 := by
    have : 51 * V * (100 - S) ≤ 51 * 100 * 99 := Nat.mul_le_mul (by omega) (by omega)
    unfold pNum; omega
  have hq (f : Nat) : qNum S V f ≤ 10220000 := by
    have := qNum_antitone S V f.zero_le
    rw [qNum_zero] at this
    omega
  have ht : tNum S V f60 ≤ 10220000 := tNum_eq_qNum S V f60 ▸ hq _
  have := hq f60
  omega

/-- Settles O18: at a boundary both formulas select from `v` and `p` alone, the same triple. -/
theorem sectorsAgreeAtTheirBoundary : Obligations.SectorsAgreeAtTheirBoundary := by
  refine ⟨fun dh s v => ?_, fun dh S V _ _ => ?_⟩
  · simp [sectorReal, selectRgb_succ_start]
  · simp [sectorRgb, t255_eq_q255, q255_zero, q255_sixty, selectRgb_succ_start]

/-! ### The cases of `Convert` -/

theorem normHue_lt_iff {H : Nat} : normHue H < 360 ↔ H ≤ 360 := by
  unfold normHue; split_ifs <;> omega

section Convert

variable {h : Phase} {s v : Percent}

theorem convert_satRange (hs : 100 < s.toNat) : convert h s v = .err .satRange (s.setWidth 10) := if_pos hs

theorem convert_valRange (hs : s.toNat ≤ 100) (hv : 100 < v.toNat) :
    convert h s v = .err .valRange (v.setWidth 10) := by
  rw [convert, if_neg hs.not_gt, if_pos hv]

theorem convert_gray (hs : s.toNat = 0) (hv : v.toNat ≤ 100) :
    convert h s v = okRgb (v255 v.toNat, v255 v.toNat, v255 v.toNat) := by
  rw [convert, if_neg (by omega), if_neg hv.not_gt, if_pos hs]

theorem convert_hueRange (hs : 1 ≤ s.toNat) (hs' : s.toNat ≤ 100) (hv : v.toNat ≤ 100) (hh : 360 < h.toNat) :
    convert h s v = .err .hueRange h := by
  rw [convert, if_neg hs'.not_gt, if_neg hv.not_gt, if_neg (by omega), dif_neg (by simpa [normHue_lt_iff] using hh)]

/-- Inside the wheel `Convert` depends on the hue through its normalisation alone. -/
theorem convert_congr_normHue {k : Phase} (hk : k.toNat ≤ 360) (hhk : normHue h.toNat = normHue k.toNat) :
    convert h s v = convert k s v := by
  simp only [convert, hhk, dif_pos (normHue_lt_iff.mpr hk)]

/-- The general case, with the sector named by its index. -/
theorem convert_sector (hs : 1 ≤ s.toNat) (hs' : s.toNat ≤ 100) (hv : v.toNat ≤ 100) (hh : h.toNat ≤ 360)
    {dh : Fin 6} (hdh : dh.val = normHue h.toNat / 60) :
    convert h s v = okRgb (sectorRgb dh s.toNat v.toNat (normHue h.toNat % 60)) := by
  rw [convert, if_neg hs'.not_gt, if_neg hv.not_gt, if_neg (by omega), dif_pos (normHue_lt_iff.mpr hh)]
  simp only [← hdh]

/-- A hue in range has a sector. -/
theorem exists_sector {H : Nat} (hH : H ≤ 360) : ∃ dh : Fin 6, dh.val = normHue H / 60 :=
  ⟨⟨normHue H / 60, by have := normHue_lt_iff.mpr hH; omega⟩, rfl⟩

/-- The general case through the printed table. -/
theorem convert_hexagonTable (hs : 1 ≤ s.toNat) (hs' : s.toNat ≤ 100) (hv : v.toNat ≤ 100) (hh : h.toNat ≤ 360) :
    convert h s v = okRgb (hexagonTable (normHue h.toNat / 60) (v255 v.toNat) (p255 s.toNat v.toNat)
      (q255 s.toNat v.toNat (normHue h.toNat % 60)) (t255 s.toNat v.toNat (normHue h.toNat % 60))) := by
  obtain ⟨dh, hdh⟩ := exists_sector hh
  rw [convert_sector hs hs' hv hh hdh, ← hdh, hexagonTable_eq_selectRgb, sectorRgb]

end Convert

/-- Settles O15: the cases of `Convert` are those of the pseudocode, in its order. -/
theorem convertFollowsThePseudocode : Obligations.ConvertFollowsThePseudocode := by
  rintro h s v hn _ (rfl : hn = normHue h.toNat) rfl
  have hhue : 360 ≤ normHue h.toNat ↔ 360 < h.toNat := by simpa using normHue_lt_iff.not
  simp only [hhue]
  split_ifs with hs hv hs0 hh
  · exact convert_satRange hs
  · exact convert_valRange (not_lt.mp hs) hv
  · exact convert_gray hs0 (not_lt.mp hv)
  · exact convert_hueRange (by omega) (not_lt.mp hs) (not_lt.mp hv) hh
  · exact convert_hexagonTable (by omega) (not_lt.mp hs) (not_lt.mp hv) (not_lt.mp hh)

/-- Settles O17: 360 is the one port value that the normalisation moves, to 0. -/
theorem hueWrapsAt360Only : Obligations.HueWrapsAt360Only := by
  refine ⟨fun s v => ?_, fun h k hhk => ?_, fun h s v hh hs hs' hv => convert_hueRange hs hs' hv hh⟩
  · exact convert_congr_normHue (by decide) rfl
  · unfold normHue at hhk
    split_ifs at hhk <;> bv_omega

/-! ### The operation -/

/-- `CONVERT` on an answered triple (40_color_converter.md R91). -/
theorem exec_convert_okRgb {s : State} {rgb : Nat × Nat × Nat} (h : convert s.regH s.regS s.regV = okRgb rgb) :
    exec .convert s = .next (s.withRgb rgb 0b0101#4) := exec_convert_ok s h

/-- Settles O13: the general case of `Convert` through the printed table, written to the three ports. -/
theorem convertWritesTheSectorsRow : Obligations.ConvertWritesTheSectorsRow := by
  refine ⟨by decide, ?_⟩
  rintro s _ hS hS' hV hH rfl
  exact exec_convert_okRgb (convert_hexagonTable hS hS' hV hH)

/-- Settles O12: the gray branch comes before the hue is looked at. -/
theorem convertGrayAtZeroSaturation : Obligations.ConvertGrayAtZeroSaturation :=
  ⟨fun _ _ hv => convert_gray rfl hv, fun s hS hV => exec_convert_okRgb (convert_gray (by simp [hS]) hV)⟩

/-- Settles O14: each failing check is a case of `Convert`, and an error is fault entry. -/
theorem convertFaultsOutsideItsDomain : Obligations.ConvertFaultsOutsideItsDomain :=
  ⟨fun s hS => exec_convert_err s (convert_satRange hS), fun s hS hV => exec_convert_err s (convert_valRange hS hV),
    fun s hS hS' hV hH => exec_convert_err s (convert_hueRange hS hS' hV hH)⟩

/-! ### The document's algorithm over the rationals -/

/-- Rounding a rational whose sum with one half is a quotient of naturals. -/
theorem rhaz_eq_natDiv {x : ℚ} {n d : Nat} (h : x + 1 / 2 = (n : ℚ) / d) : rhaz x = (n / d : Nat) := by
  rw [rhaz, h, Rat.floor_natCast_div_natCast]; rfl

section Rounding

variable {S V f60 : Nat}

theorem rhaz_value : rhaz (255 * (V / 100 : ℚ)) = v255 V :=
  rhaz_eq_natDiv (by push_cast [vNum]; ring)

theorem rhaz_p (hS : S ≤ 100) : rhaz (255 * (V / 100 * (1 - S / 100) : ℚ)) = p255 S V :=
  rhaz_eq_natDiv (by push_cast [pNum, hS]; ring)

theorem rhaz_q (hS : S ≤ 100) (hf : f60 ≤ 60) :
    rhaz (255 * (V / 100 * (1 - S / 100 * (f60 / 60)) : ℚ)) = q255 S V f60 := by
  have hSf : S * f60 ≤ 6000 := Nat.mul_le_mul hS hf
  exact rhaz_eq_natDiv (by push_cast [qNum, hSf]; ring)

theorem rhaz_t (hS : S ≤ 100) (hf : f60 ≤ 60) :
    rhaz (255 * (V / 100 * (1 - S / 100 * (1 - f60 / 60)) : ℚ)) = t255 S V f60 := by
  have h : (1 - f60 / 60 : ℚ) = ((60 - f60 : Nat) : ℚ) / 60 := by push_cast [hf]; ring
  rw [h, rhaz_q hS (Nat.sub_le 60 f60), t255_eq_q255]

end Rounding

/-- A triple of naturals as integers. -/
def intRgb (rgb : Nat × Nat × Nat) : ℤ × ℤ × ℤ := (rgb.1, rgb.2.1, rgb.2.2)

/-- The last step of 40_color_converter.md R81: a triple in the unit interval, rounded to the range 0 to 255. -/
def rhazRgb (rgb : ℚ × ℚ × ℚ) : ℤ × ℤ × ℤ := (rhaz (255 * rgb.1), rhaz (255 * rgb.2.1), rhaz (255 * rgb.2.2))

/-- Rounding after the document's selection is selecting among the integer values. -/
theorem rhazRgb_sectorReal {S V f60 : Nat} (dh : Fin 6) (hS : S ≤ 100) (hf : f60 ≤ 60) :
    rhazRgb (sectorReal dh (S / 100) (V / 100) (f60 / 60)) = intRgb (sectorRgb dh S V f60) := by
  simp only [rhazRgb, sectorReal, intRgb, sectorRgb, selectRgb, ← pick_map (fun x : ℚ => rhaz (255 * x)),
    ← pick_map (fun n : Nat => (n : ℤ)), rhaz_value, rhaz_p hS, rhaz_q hS hf, rhaz_t hS hf]

/-! The tests of the document's algorithm on integer ports. -/

section Ports

variable {H S V : Nat}

theorem abs_sub_lt_eps_iff : |(H : ℚ) - 360| < eps ↔ H = 360 := by
  refine ⟨fun h => ?_, fun h => by simp [h, eps]⟩
  obtain ⟨hlo, hhi⟩ := abs_lt.mp h
  have hlo' : (359 : ℚ) < H := by unfold eps at hlo; linarith
  have hhi' : (H : ℚ) < 361 := by unfold eps at hhi; linarith
  have : 359 < H := by exact_mod_cast hlo'
  have : H < 361 := by exact_mod_cast hhi'
  omega

theorem div_lt_eps_iff : (S / 100 : ℚ) < eps ↔ S = 0 := by
  refine ⟨fun h => ?_, fun h => by simp [h, eps]⟩
  have hS : (S : ℚ) < 1 := by unfold eps at h; linarith
  exact Nat.lt_one_iff.mp (by exact_mod_cast hS)

theorem ite_wrap_eq_normHue : (if |(H : ℚ) - 360| < eps then 0 else (H : ℚ)) = normHue H := by
  simp [abs_sub_lt_eps_iff, normHue]

theorem floor_div_sixty (n : Nat) : ⌊(n / 60 : ℚ)⌋ = (n / 60 : Nat) := by
  exact_mod_cast Rat.floor_natCast_div_natCast n 60

theorem sub_floor_div_sixty (n : Nat) : (n / 60 : ℚ) - ⌊(n / 60 : ℚ)⌋ = (n % 60 : Nat) / 60 := by
  have h : (60 * (n / 60 : Nat) + (n % 60 : Nat) : ℚ) = n := by exact_mod_cast Nat.div_add_mod n 60
  rw [floor_div_sixty, Int.cast_natCast]
  linarith

theorem convertReal_gray (hV : V ≤ 100) :
    convertReal H (0 : Nat) V = some (intRgb (v255 V, v255 V, v255 V)) := by
  have hV' : (V : ℚ) ≤ 100 := by exact_mod_cast hV
  have h0 : ((0 : Nat) / 100 : ℚ) < eps := div_lt_eps_iff.mpr rfl
  have hdom : (0 : ℚ) ≤ (0 : Nat) ∧ ((0 : Nat) : ℚ) ≤ 100 ∧ (0 : ℚ) ≤ V ∧ (V : ℚ) ≤ 100 := by simpa using hV'
  simp only [convertReal, if_pos hdom, if_pos h0, mul_comm _ (255 : ℚ), rhaz_value, intRgb]

theorem convertReal_sector (hS : 1 ≤ S) (hS' : S ≤ 100) (hV : V ≤ 100) {dh : Fin 6}
    (hdh : dh.val = normHue H / 60) :
    convertReal H S V = some (intRgb (sectorRgb dh S V (normHue H % 60))) := by
  have hdom : (0 : ℚ) ≤ S ∧ (S : ℚ) ≤ 100 ∧ (0 : ℚ) ≤ V ∧ (V : ℚ) ≤ 100 := by
    refine ⟨?_, ?_, ?_, ?_⟩ <;> exact_mod_cast (by omega)
  have hgray : ¬(S / 100 : ℚ) < eps := by rw [div_lt_eps_iff]; omega
  have hfloor : ⌊(normHue H / 60 : ℚ)⌋ = (dh.val : ℤ) := by rw [floor_div_sixty, hdh]
  have hd : 0 ≤ ⌊(normHue H / 60 : ℚ)⌋ ∧ ⌊(normHue H / 60 : ℚ)⌋ < 6 := by rw [hfloor]; omega
  have hidx : (⟨⌊(normHue H / 60 : ℚ)⌋.toNat, by omega⟩ : Fin 6) = dh := Fin.ext (by simp [hfloor])
  simp only [convertReal, if_pos hdom, if_neg hgray, ite_wrap_eq_normHue, dif_pos hd, hidx, sub_floor_div_sixty]
  exact congrArg some (rhazRgb_sectorReal dh hS' (Nat.mod_lt _ (by decide)).le)

end Ports

/-- No bit of a triple of at most 255 is lost at the ports. -/
theorem exists_okRgb_eq {rgb : Nat × Nat × Nat} (h : rgb.1 ≤ 255 ∧ rgb.2.1 ≤ 255 ∧ rgb.2.2 ≤ 255) :
    ∃ r g b : Level, okRgb rgb = .ok r g b ∧ some (intRgb rgb) = some ((r.toNat : ℤ), (g.toNat : ℤ), (b.toNat : ℤ)) := by
  have hport {n : Nat} (hn : n ≤ 255) : (BitVec.ofNat 8 n).toNat = n :=
    (BitVec.toNat_ofNat n 8).trans (Nat.mod_eq_of_lt (by omega))
  obtain ⟨hr, hg, hb⟩ := h
  exact ⟨_, _, _, rfl, by rw [hport hr, hport hg, hport hb, intRgb]⟩

/-- Settles O16: both sides are the gray triple or the same sector's row, and rounding commutes with the selection. -/
theorem convertAgreesWithTheRealContract : Obligations.ConvertAgreesWithTheRealContract := by
  intro h s v hh hs hv
  have hle : v255 v.toNat ≤ 255 := v255_le hv
  obtain hs0 | hs1 : s.toNat = 0 ∨ 1 ≤ s.toNat := by omega
  · rw [convert_gray hs0 hv, hs0, convertReal_gray hv]
    exact exists_okRgb_eq ⟨hle, hle, hle⟩
  · obtain ⟨dh, hdh⟩ := exists_sector hh
    rw [convert_sector hs1 hs hv hh hdh, convertReal_sector hs1 hs hv hdh]
    exact exists_okRgb_eq (sectorRgb_le dh hv)

end Sys2Proof.Machine

/-! SUPPORT. Proofs for the duty scaler of CGC (41_duty_scaler.md): the converter's levels that reach it in hue mode, the
clamp and the scaling over every configuration, the two operations, and the constants. -/

namespace Sys2Proof.Machine

/-! ### The levels that reach the scaler -/

section Levels
variable {S V f60 n : Nat}

/-- A bound below all four values bounds the selected one. -/
theorem le_pick {v p q t : Nat} (hv : n ≤ v) (hp : n ≤ p) (hq : n ≤ q) (ht : n ≤ t) (sel : BitVec 2) :
    n ≤ pick v p q t sel := by
  unfold pick; split_ifs <;> assumption

/-- Whatever the sector selects lies between `p` and `v`. -/
theorem sectorRgb_mem_Icc (dh : Fin 6) (hf : f60 ≤ 60) :
    (sectorRgb dh S V f60).1 ∈ Set.Icc (p255 S V) (v255 V) ∧
    (sectorRgb dh S V f60).2.1 ∈ Set.Icc (p255 S V) (v255 V) ∧
    (sectorRgb dh S V f60).2.2 ∈ Set.Icc (p255 S V) (v255 V) := by
  have hpick (sel : BitVec 2) : pick (v255 V) (p255 S V) (q255 S V f60) (t255 S V f60) sel ∈ Set.Icc (p255 S V) (v255 V) :=
    ⟨le_pick p255_le_v255 le_rfl (p255_le_q255 hf) p255_le_t255 sel,
      pick_le le_rfl p255_le_v255 q255_le_v255 t255_le_v255 sel⟩
  exact ⟨hpick _, hpick _, hpick _⟩

/-- The three levels that `Convert` answers inside the wheel lie between `p` and `v`. -/
theorem convert_mem_Icc {h : Phase} {s v : Percent} (hs : 1 ≤ s.toNat) (hs' : s.toNat ≤ 100) (hv : v.toNat ≤ 100)
    (hh : h.toNat ≤ 360) : ∃ r g b : Level, convert h s v = .ok r g b ∧
      r.toNat ∈ Set.Icc (p255 s.toNat v.toNat) (v255 v.toNat) ∧
      g.toNat ∈ Set.Icc (p255 s.toNat v.toNat) (v255 v.toNat) ∧
      b.toNat ∈ Set.Icc (p255 s.toNat v.toNat) (v255 v.toNat) := by
  obtain ⟨dh, hdh⟩ := exists_sector hh
  obtain ⟨r, g, b, hok, hrgb⟩ := exists_okRgb_eq (sectorRgb_le (S := s.toNat) (f60 := normHue h.toNat % 60) dh hv)
  simp only [intRgb, Option.some.injEq, Prod.mk.injEq, Nat.cast_inj] at hrgb
  obtain ⟨hr, hg, hb⟩ := hrgb
  refine ⟨r, g, b, (convert_sector hs hs' hv hh hdh).trans hok, ?_⟩
  rw [← hr, ← hg, ← hb]
  exact sectorRgb_mem_Icc dh (Nat.mod_lt _ (by decide)).le

end Levels

/-- Settles O21: at saturation and value 80, `p` is 41 and `v` is 204. -/
theorem hueModeLevelsLieBetween41And204 : Obligations.HueModeLevelsLieBetween41And204 := by
  intro h hh
  obtain ⟨r, g, b, hok, ⟨hr, hr'⟩, ⟨hg, hg'⟩, hb, hb'⟩ :=
    convert_mem_Icc (s := 80) (v := 80) (by decide) (by decide) (by decide) hh.le
  exact ⟨r, g, b, hok, hr, hr', hg, hg', hb, hb'⟩

/-! ### The clamp and the scaling -/

section Scaling
variable {c : Config} {k : Lane} {x : Level} {wt n : Nat}

/-- The constraint of 00_scope.md R8 on `MAX_DUTY`. -/
theorem maxDuty_bounds_of_wf (hc : c.wf = true) : 3 ≤ c.maxDuty ∧ c.maxDuty ≤ 1024 := by
  simp only [Config.wf, Bool.and_eq_true, decide_eq_true_eq] at hc
  omega

/-- The clamp saturates and never wraps (41_duty_scaler.md R102): 1024 fits the 11 bits of a width. -/
theorem clampWidth_toNat_of_wf (hc : c.wf = true) (w : Nat) : (clampWidth c w).toNat = min w c.maxDuty := by
  have := maxDuty_bounds_of_wf hc
  rw [clampWidth, BitVec.toNat_ofNat, Nat.mod_eq_of_lt (by omega)]

theorem scaleLevel_toNat_of_wf (hc : c.wf = true) (hd : c.scaleDiv = 256) (x : Level) (wt : Nat) :
    (scaleLevel c x wt).toNat = min (wt * x.toNat / 256) c.maxDuty := by
  rw [scaleLevel, clampWidth_toNat_of_wf hc, hd]

/-- A fraction of a number, rounded down, is at most the number. -/
theorem mul_div_le_of_le {a b d : Nat} (h : b ≤ d) : a * b / d ≤ a :=
  Nat.div_le_of_le_mul ((Nat.mul_le_mul_left a h).trans_eq (mul_comm a d))

/-- A level is less than the divisor, so scaling never exceeds the weight. -/
theorem mul_level_div_le (wt : Nat) (x : Level) : wt * x.toNat / 256 ≤ wt := mul_div_le_of_le x.isLt.le

/-- It stays strictly below a positive bound of the weight. -/
theorem mul_level_div_lt (hwt : wt ≤ n) (hn : 0 < n) : wt * x.toNat / 256 < n :=
  Nat.div_lt_of_lt_mul (calc
    wt * x.toNat ≤ n * x.toNat := Nat.mul_le_mul_right _ hwt
    _ < n * 256 := Nat.mul_lt_mul_of_pos_left x.isLt hn
    _ = 256 * n := mul_comm _ _)

theorem weight_le_maxDuty (hk : c.wpct k ≤ 100) : weight c k ≤ c.maxDuty := mul_div_le_of_le hk

/-- A weight of `256 m` with `m` at most 4 scales by `m` exactly: no remainder is dropped and the clamp does not act. -/
theorem scaleLevel_256_mul {m : Nat} (hm : m ≤ 4) (x : Level) :
    scaleLevel referenceConfig x (256 * m) = BitVec.ofNat 11 (m * x.toNat) := by
  have hle : m * x.toNat ≤ 4 * 255 := Nat.mul_le_mul hm (Nat.le_of_lt_succ x.isLt)
  have hquot : 256 * m * x.toNat / 256 = m * x.toNat := by rw [mul_assoc, Nat.mul_div_cancel_left _ (by decide)]
  have hmin : min (m * x.toNat) 1024 = m * x.toNat := Nat.min_eq_left (by omega)
  exact congrArg (BitVec.ofNat 11) ((congrArg (min · 1024) hquot).trans hmin)

theorem scaleLevel_512 (x : Level) : scaleLevel referenceConfig x 512 = BitVec.ofNat 11 (2 * x.toNat) :=
  scaleLevel_256_mul (m := 2) (by decide) x

theorem scaleLevel_1024 (x : Level) : scaleLevel referenceConfig x 1024 = BitVec.ofNat 11 (4 * x.toNat) :=
  scaleLevel_256_mul (m := 4) (by decide) x

/-- The sawtooth never reaches the clamp: a phase is at most 1023 (41_duty_scaler.md R105). -/
theorem clampWidth_phase (p : Phase) : clampWidth referenceConfig p.toNat = p.setWidth 11 := by
  apply BitVec.eq_of_toNat_eq
  have hp := p.isLt
  rw [clampWidth_toNat, BitVec.toNat_setWidth]
  omega

end Scaling

/-- Settles O25: the clamp for every configuration, a weight of at most 100 % as at most `MAX_DUTY`, and the exact weights. -/
theorem scaleSaturatesAtMaxDuty : Obligations.ScaleSaturatesAtMaxDuty := by
  refine ⟨fun c x wt hc hd => scaleLevel_toNat_of_wf hc hd x wt, fun c x k hc hd hk => ?_, fun x => ?_⟩
  · have hpos : 0 < c.maxDuty := Nat.zero_lt_of_lt (maxDuty_bounds_of_wf hc).1
    have hlt : weight c k * x.toNat / 256 < c.maxDuty := mul_level_div_lt (weight_le_maxDuty hk) hpos
    exact ⟨(scaleLevel_toNat_of_wf hc hd _ _).trans (Nat.min_eq_left hlt.le), hlt⟩
  · have := x.isLt
    rw [scaleLevel_512, scaleLevel_1024, BitVec.toNat_ofNat, BitVec.toNat_ofNat]
    omega

/-- Settles O26: the scaled level is at most the weight before the clamp, and the clamp keeps both lanes in range. -/
theorem laneOutputsStayInRange : Obligations.LaneOutputsStayInRange := by
  intro c s k hc hd
  rw [scaleLane, scaleLevel_toNat_of_wf hc hd, waveLane, clampWidth_toNat_of_wf hc]
  exact ⟨min_le_min_right _ (mul_level_div_le _ _), min_le_right _ _⟩

/-! ### The operations and the constants -/

/-- Settles O23: the reference weights 512, 1024, 512 scale by 2, 4, 2. -/
theorem scaleWeightsTheColours : Obligations.ScaleWeightsTheColours := by
  refine ⟨rfl, fun s => ?_⟩
  rw [exec_scale, scaleLevel_512, scaleLevel_1024, scaleLevel_512]
  rfl

/-- Settles O24: with the sawtooth the clamp is the widening, and for every waveform it is the minimum. -/
theorem waveWritesTheWaveform : Obligations.WaveWritesTheWaveform := by
  refine ⟨rfl, fun s => ?_, fun c s k hc => clampWidth_toNat_of_wf hc _⟩
  rw [exec_wave, clampWidth_phase, clampWidth_phase, clampWidth_phase]
  rfl

/-- Settles O27: the tables of the reference configuration, and `WEIGHT[k]` by its definition (41_duty_scaler.md R100). -/
theorem hardWiredConstants : Obligations.HardWiredConstants :=
  ⟨rfl, rfl, rfl, rfl, fun _ _ => rfl⟩

end Sys2Proof.Machine

/-! SUPPORT. Proofs for the frame sequencer of CGC (42_frame_sequencer.md): its own operations, the next-step table, the
phase counter over repeated executions of `ADVANCE`, and one frame and any number of frames in both modes. -/

namespace Sys2Proof.Machine

/-! ### The sequencer's operations -/

/-- Settles O6: a `Start` is the head of the schedule, and without one `IDLE` is held. -/
theorem idleLatchesTheModeOnStart : Obligations.IdleLatchesTheModeOnStart := by
  refine ⟨rfl, fun s m l hs => exec_idle_start s (startInput_eq_some.mpr ⟨l, hs⟩), fun s hs => ?_⟩
  refine exec_idle_held s (Option.eq_none_iff_forall_ne_some.mpr fun m hm => ?_)
  obtain ⟨l, hl⟩ := startInput_eq_some.mp hm
  exact hs m l hl

/-- Settles O7: outside `IDLE` the turn of a `Start` only ends. -/
theorem startOutsideIdleHasNoEffect : Obligations.StartOutsideIdleHasNoEffect := by
  intro s m l hs hstep
  have hop : s.op ≠ .idle := mt decode_eq_iff.mp hstep
  rw [step_of_start hs, if_neg hop, State.popTurn, hs, List.tail_cons]

/-- Settles O8: the producer's entry is `DERIVH` in hue mode and `DERIVP` in phase mode. -/
theorem loadpCopiesThePhase : Obligations.LoadpCopiesThePhase := by
  refine ⟨rfl, fun s => ?_⟩
  have hentry : encode (producerEntry s.mode) = if s.mode = .hue then 0b0010#4 else 0b0011#4 := by
    cases s.mode <;> rfl
  rw [exec_loadp_entry, ← hentry]
  rfl

/-- Settles O9: the hard-wired constants are 80 and 80. -/
theorem derivhFeedsTheConverter : Obligations.DerivhFeedsTheConverter := ⟨rfl, exec_derivh⟩

/-- Settles O10: the hard-wired shifts are 341 and 682, and the first phase is shifted by 0. -/
theorem derivpShiftsThePhase : Obligations.DerivpShiftsThePhase := ⟨rfl, exec_derivp⟩

/-- Settles O11: the range of the mode is 360 or 1024. -/
theorem advanceIncrementsThePhase : Obligations.AdvanceIncrementsThePhase := by
  refine ⟨rfl, fun s => ?_⟩
  rw [exec_advance, nextPhase, phaseRange_reference]
  rfl

/-! ### The next-step table -/

/-- Settles O42, move by move. -/
theorem successorsFollowTheTable : Obligations.SuccessorsFollowTheTable := by
  intro s t h
  generalize hi : s.op = i at h ⊢
  cases execMove_of_exec_eq_next h
  case idleStart start => simp [start]
  case idleHeld held => simp [held, hi]
  case loadp => cases hm : s.mode <;> simp [producerEntry]
  case convertOk ok => simp [ok]
  case convertErr err => simp [err]
  case dlywaitHeld pending => simp [pending, hi]
  case dlywaitDone done => simp [done]
  all_goals simp

/-! ### The phase counter -/

/-- Counting up from `p` modulo `r` meets every value of the range exactly once in `r` counts. -/
theorem existsUnique_add_mod_eq {p r v : Nat} (hp : p < r) (hv : v < r) : ∃! n, n < r ∧ (p + n) % r = v := by
  have hback : (p + (v + (r - p))) % r = v := by
    rw [show p + (v + (r - p)) = v + r by omega, Nat.add_mod_right, Nat.mod_eq_of_lt hv]
  refine ⟨(v + (r - p)) % r, ⟨Nat.mod_lt _ (Nat.zero_lt_of_lt hv), by rw [Nat.add_mod_mod, hback]⟩,
    fun n ⟨hn, hnv⟩ => ?_⟩
  have hmod : p + n ≡ p + (v + (r - p)) [MOD r] := hnv.trans hback.symm
  rw [← Nat.mod_eq_of_lt hn]
  exact Nat.ModEq.add_left_cancel' p hmod

section Counter
variable {s : State}

/-- `n` executions of `ADVANCE` keep the mode and add `n` modulo its range (42_frame_sequencer.md R123). -/
theorem execTimes_advance (n : Nat) (h : s.phase.toNat < phaseRange referenceConfig s.mode) :
    ∃ t, execTimes .advance n s = .next t ∧
      t.phase.toNat = (s.phase.toNat + n) % phaseRange referenceConfig s.mode := by
  induction n generalizing s with
  | zero => exact ⟨s, rfl, (Nat.mod_eq_of_lt h).symm⟩
  | succ n ih =>
    obtain ⟨t, ht, hphase⟩ := ih (s := { s with phase := nextPhase referenceConfig s.mode s.phase }.goto .dlyreq)
      (nextPhase_lt s.mode s.phase)
    refine ⟨t, ht, hphase.trans ?_⟩
    rw [goto_phase, goto_mode, nextPhase_toNat, Nat.mod_add_mod, Nat.add_assoc, Nat.add_comm 1]

/-- Which value the counter has after `n` executions, as arithmetic. -/
theorem execTimes_advance_phase_iff {n v : Nat} (h : s.phase.toNat < phaseRange referenceConfig s.mode) :
    (∃ t, execTimes .advance n s = .next t ∧ t.phase.toNat = v) ↔
      (s.phase.toNat + n) % phaseRange referenceConfig s.mode = v := by
  obtain ⟨t, ht, hphase⟩ := execTimes_advance n h
  simp [ht, hphase]

end Counter

/-- Settles O54: the counter's values are the sums modulo the range. -/
theorem phaseCounterWraps : Obligations.PhaseCounterWraps := by
  intro s h
  refine ⟨fun n => execTimes_advance n h, ?_, fun v hv => ?_⟩
  · obtain ⟨t, ht, hphase⟩ := execTimes_advance (phaseRange referenceConfig s.mode) h
    rw [Nat.add_mod_right, Nat.mod_eq_of_lt h] at hphase
    exact ⟨t, ht, BitVec.eq_of_toNat_eq hphase⟩
  · simp only [execTimes_advance_phase_iff h]
    exact existsUnique_add_mod_eq h hv

/-! ### One frame -/

/-- The operations of one frame in a mode (30_encoding.md R73). -/
def frameOps : Mode → List Instr
  | .hue => frameHue
  | .phase => framePhase

/-- The steps of one frame: one of the sequencer for each operation and one of the delay agent. -/
def frameSteps (m : Mode) : Nat := (frameOps m).length + 1

/-- The operations of a mode's producer, `LOADP` among them: the frame up to `SETD 0` (42_frame_sequencer.md R127). -/
def producerSteps : Mode → Nat
  | .hue => 4
  | .phase => 3

/-- The turns of the half of a frame that both modes share: `SETD 0` to `DLYREQ`, the delay agent, `DLYWAIT`. -/
def consumerTurns : List Turn :=
  [.sequencer, .sequencer, .sequencer, .sequencer, .sequencer, .delayAgent, .sequencer]

theorem frameTurns_frameOps (m : Mode) :
    frameTurns (frameOps m) = List.replicate (producerSteps m) .sequencer ++ consumerTurns := by
  cases m <;> rfl

theorem frameSteps_eq (m : Mode) : frameSteps m = producerSteps m + 7 := by cases m <;> rfl

/-- The events of one frame in a mode, by the counter's value as a number (42_frame_sequencer.md R126). -/
def frameEventsAt : Mode → Nat → List Event
  | .hue, p => hueFrameEvents (BitVec.ofNat 10 p)
  | .phase, p => phaseFrameEvents p

/-- `s` stands at the beginning of a frame in mode `m`. -/
structure FrameReady (m : Mode) (s : State) : Prop where
  op_eq : s.op = .loadp
  mode_eq : s.mode = m
  phase_lt : s.phase.toNat < phaseRange referenceConfig m
  dlyPending_eq : s.dlyPending = false

/-- What the first half of a frame, the producer, leaves in `t`: three widths that the sink accepts, those of the frame's
events, and the rest of what a frame's effect speaks of as it was in `s`. -/
structure Produced (m : Mode) (s t : State) : Prop where
  op_eq : t.op = .setd0
  widths_le : WidthsLe t
  widths_events : frameEvents t.regW0 t.regW1 t.regW2 = frameEventsAt m s.phase.toNat
  phase_eq : t.phase = s.phase
  mode_eq : t.mode = s.mode
  fault_eq : t.fault = s.fault
  ch3_eq : t.ch3 = s.ch3
  events_eq : t.events = s.events

/-- What the stores, `ADVANCE` and the delay, which both modes share, make of `s` with the events `evs`. -/
structure FrameEffect (evs : List Event) (s t : State) : Prop where
  op_eq : t.op = .loadp
  mode_eq : t.mode = s.mode
  phase_eq : t.phase = nextPhase referenceConfig s.mode s.phase
  dlyPending_eq : t.dlyPending = false
  fault_eq : t.fault = s.fault
  ch3_eq : t.ch3 = s.ch3
  trace_eq : t.trace = s.trace ++ evs

section OneFrame
variable {s t u : State} {m : Mode} {i : Instr} {n k : Nat} {l : List Turn} {evs : List Event}

theorem frameEventsAt_hue {p : Phase} {r g b : Level} (h : convert p 80 80 = .ok r g b) :
    frameEventsAt .hue p.toNat = frameEvents (scaleLevel referenceConfig g 512) (scaleLevel referenceConfig r 1024)
      (scaleLevel referenceConfig b 512) := by
  simp only [frameEventsAt, hueFrameEvents, BitVec.ofNat_toNat, BitVec.setWidth_eq, h]

/-- The sawtooth of a number modulo 1024 never reaches the clamp. -/
theorem clampWidth_mod (x : Nat) : clampWidth referenceConfig (x % 1024) = BitVec.ofNat 11 (x % 1024) :=
  congrArg (BitVec.ofNat 11) (Nat.min_eq_left (Nat.mod_lt x (by decide)).le)

theorem frameEventsAt_phase (p : Phase) :
    frameEventsAt .phase p.toNat = frameEvents (clampWidth referenceConfig (p.toNat % 1024))
      (clampWidth referenceConfig ((p.toNat + 341) % 1024)) (clampWidth referenceConfig ((p.toNat + 682) % 1024)) := by
  rw [clampWidth_mod, clampWidth_mod, clampWidth_mod, Nat.mod_eq_of_lt p.isLt]
  rfl

/-- A turn of the sequencer at the head of a run. -/
theorem runSteps_succ_exec (hs : s.schedule.head? = some .sequencer) (hi : s.op = i) (hu : exec i s = .next u) :
    runSteps (n + 1) s = runSteps n u.popTurn := by
  obtain ⟨rest, hrest⟩ := List.head?_eq_some_iff.mp hs
  exact runSteps_succ (by rw [step_of_sequencer hrest, sequencerTurn, hi, hu, endTurn_next])

/-- Runs one after the other. -/
theorem runSteps_add (h : runSteps k s = .next t) : runSteps (k + n) s = runSteps n t := by
  induction k generalizing s with
  | zero =>
    obtain rfl : s = t := by injection h
    rw [Nat.zero_add]
  | succ k ih =>
    rw [Nat.add_right_comm]
    cases hs : step s with
    | next u => rw [runSteps_succ hs] at h ⊢; exact ih h
    | fault f => rw [runSteps_succ_fault hs] at h; cases h
    | refused r => rw [runSteps_succ_refused hs] at h; cases h

/-- The producer of hue mode: `LOADP`, `DERIVH`, `CONVERT`, `SCALE`. -/
theorem runSteps_hueProducer (h : FrameReady .hue s) (hs : s.schedule = List.replicate 4 .sequencer ++ l) :
    ∃ t, runSteps 4 s = .next t ∧ Produced .hue s t ∧ t.schedule = l := by
  obtain ⟨hop, hm, hlt, -⟩ := h
  obtain ⟨r, g, b, hok⟩ : ∃ r g b, convert s.phase 80 80 = .ok r g b :=
    convert_ok_of_range hlt.le (by decide) (by decide)
  rw [runSteps_succ_exec (by simp [hs]) hop (exec_loadp_entry s),
    runSteps_succ_exec (by simp [hs]) (by simp [hm, producerEntry]) (exec_derivh _),
    runSteps_succ_exec (by simp [hs]) (by simp) (exec_convert_ok _ hok),
    runSteps_succ_exec (by simp [hs]) (by simp) (exec_scale _)]
  exact ⟨_, rfl, ⟨by simp, ⟨scaleLevel_le _ _, scaleLevel_le _ _, scaleLevel_le _ _⟩, (frameEventsAt_hue hok).symm,
    rfl, rfl, rfl, rfl, rfl⟩, by simp [hs]⟩

/-- The producer of phase mode: `LOADP`, `DERIVP`, `WAVE`. -/
theorem runSteps_phaseProducer (h : FrameReady .phase s) (hs : s.schedule = List.replicate 3 .sequencer ++ l) :
    ∃ t, runSteps 3 s = .next t ∧ Produced .phase s t ∧ t.schedule = l := by
  obtain ⟨hop, hm, -, -⟩ := h
  rw [runSteps_succ_exec (by simp [hs]) hop (exec_loadp_entry s),
    runSteps_succ_exec (by simp [hs]) (by simp [hm, producerEntry]) (exec_derivp _),
    runSteps_succ_exec (by simp [hs]) (by simp) (exec_wave _)]
  exact ⟨_, rfl, ⟨by simp, ⟨clampWidth_le _, clampWidth_le _, clampWidth_le _⟩, by simp [frameEventsAt_phase],
    rfl, rfl, rfl, rfl, rfl⟩, by simp [hs]⟩

/-- The producer of either mode. -/
theorem runSteps_producer (h : FrameReady m s)
    (hs : s.schedule = List.replicate (producerSteps m) .sequencer ++ l) :
    ∃ t, runSteps (producerSteps m) s = .next t ∧ Produced m s t ∧ t.schedule = l := by
  cases m with
  | hue => exact runSteps_hueProducer h hs
  | phase => exact runSteps_phaseProducer h hs

/-- The half of a frame that both modes share: the stores, `ADVANCE`, and the delay, which the delay agent ends. -/
theorem runSteps_consumer (hop : s.op = .setd0) (hw : WidthsLe s) (hs : s.schedule = consumerTurns ++ l) :
    ∃ t, runSteps 7 s = .next t ∧ FrameEffect (frameEvents s.regW0 s.regW1 s.regW2) s t ∧ t.schedule = l := by
  obtain ⟨h0, h1, h2⟩ := hw
  rw [consumerTurns] at hs
  rw [runSteps_succ_exec (by simp [hs]) hop (exec_setd0 s h0),
    runSteps_succ_exec (by simp [hs]) (by simp) (exec_setd1 _ (by simpa using h1)),
    runSteps_succ_exec (by simp [hs]) (by simp) (exec_setd2 _ (by simpa using h2)),
    runSteps_succ_exec (by simp [hs]) (by simp) (exec_advance _),
    runSteps_succ_exec (by simp [hs]) (by simp) (exec_dlyreq _),
    runSteps_succ (step_of_delayAgent (rest := .sequencer :: l) (by simp [hs])),
    runSteps_succ_exec (by simp [hs]) (by simp) (exec_dlywait_done _ (by simp))]
  exact ⟨_, rfl, ⟨by simp, by simp, by simp, by simp, by simp, by simp [memWrite_ch], by simp [State.trace, frameEvents]⟩,
    by simp [hs]⟩

/-- The effect of the shared half after a producer is the effect of the frame. -/
theorem Produced.frameEffect (h : Produced m s t) (hu : FrameEffect (frameEvents t.regW0 t.regW1 t.regW2) t u) :
    FrameEffect (frameEventsAt m s.phase.toNat) s u where
  op_eq := hu.op_eq
  mode_eq := hu.mode_eq.trans h.mode_eq
  phase_eq := by rw [hu.phase_eq, h.mode_eq, h.phase_eq]
  dlyPending_eq := hu.dlyPending_eq
  fault_eq := hu.fault_eq.trans h.fault_eq
  ch3_eq := hu.ch3_eq.trans h.ch3_eq
  trace_eq := by rw [hu.trace_eq, h.widths_events, State.trace, State.trace, h.events_eq]

/-- One frame in either mode (42_frame_sequencer.md R126). -/
theorem runSteps_frame (h : FrameReady m s) (hs : s.schedule = frameTurns (frameOps m) ++ l) :
    ∃ t, runSteps (frameSteps m) s = .next t ∧ FrameEffect (frameEventsAt m s.phase.toNat) s t ∧ t.schedule = l := by
  rw [frameTurns_frameOps, List.append_assoc] at hs
  obtain ⟨t, ht, hprod, hsched⟩ := runSteps_producer h hs
  obtain ⟨u, hu, heffect, hsched'⟩ := runSteps_consumer hprod.op_eq hprod.widths_le hsched
  exact ⟨u, by rw [frameSteps_eq, runSteps_add ht, hu], hprod.frameEffect heffect, hsched'⟩

/-- The counter after a frame as a number. -/
theorem FrameEffect.phase_toNat (h : FrameEffect evs s t) (hm : s.mode = m) :
    t.phase.toNat = (s.phase.toNat + 1) % phaseRange referenceConfig m := by
  rw [h.phase_eq, nextPhase_toNat, hm]

/-- A frame ends where the next one begins (42_frame_sequencer.md R125). -/
theorem FrameEffect.frameReady (h : FrameEffect evs s t) (hm : s.mode = m) : FrameReady m t :=
  ⟨h.op_eq, h.mode_eq.trans hm, by rw [h.phase_eq, hm]; exact nextPhase_lt _ _, h.dlyPending_eq⟩

end OneFrame

/-- Settles O55: the frame of hue mode. -/
theorem hueFrame : Obligations.HueFrame := by
  intro s l hop hm hlt hd hs
  obtain ⟨t, ht, h, hsched⟩ := runSteps_frame (m := .hue) ⟨hop, hm, hlt, hd⟩ hs
  have hevents : hueFrameEvents s.phase = frameEventsAt .hue s.phase.toNat := by simp [frameEventsAt]
  exact ⟨t, ht, hevents ▸ h.trace_eq, h.phase_toNat hm, h.op_eq, h.mode_eq.trans hm, h.dlyPending_eq, h.fault_eq,
    h.ch3_eq, hsched⟩

/-- Settles O56: the frame of phase mode, where every phase is in range. -/
theorem phaseFrame : Obligations.PhaseFrame := by
  intro s l hop hm hd hs
  obtain ⟨t, ht, h, hsched⟩ := runSteps_frame (m := .phase) ⟨hop, hm, s.phase.isLt, hd⟩ hs
  exact ⟨t, ht, h.trace_eq, h.phase_toNat hm, h.op_eq, h.mode_eq.trans hm, h.dlyPending_eq, h.fault_eq, h.ch3_eq, hsched⟩

/-! ### Any number of frames -/

/-- The events of `n` frames from phase `p`, those of the first frame in front. -/
theorem flatMap_frames_succ (f : Nat → List Event) {p r : Nat} (n : Nat) (hp : p < r) :
    (List.range (n + 1)).flatMap (fun k => f ((p + k) % r)) =
      f p ++ (List.range n).flatMap (fun k => f (((p + 1) % r + k) % r)) := by
  simp [List.range_succ_eq_map, List.flatMap_map, Nat.mod_eq_of_lt hp, Nat.add_assoc, Nat.add_comm 1]

/-- Any number of frames in either mode, by induction on their number: each ends where the next one begins. -/
theorem runSteps_frames {m : Mode} {l : List Turn} (n : Nat) {s : State} (h : FrameReady m s)
    (hs : s.schedule = framesTurns (frameOps m) n ++ l) :
    ∃ t, runSteps (frameSteps m * n) s = .next t ∧ t.op = .loadp ∧
      t.phase.toNat = (s.phase.toNat + n) % phaseRange referenceConfig m ∧ t.schedule = l ∧
      t.trace = s.trace ++
        (List.range n).flatMap (fun k => frameEventsAt m ((s.phase.toNat + k) % phaseRange referenceConfig m)) := by
  induction n generalizing s with
  | zero => exact ⟨s, rfl, h.op_eq, (Nat.mod_eq_of_lt h.phase_lt).symm, hs, by simp⟩
  | succ n ih =>
    obtain ⟨t, ht, heffect, hsched⟩ := runSteps_frame h (hs.trans (List.append_assoc ..))
    obtain ⟨u, hu, hop, hphase, hsched', htrace⟩ := ih (heffect.frameReady h.mode_eq) hsched
    refine ⟨u, ?_, hop, ?_, hsched', ?_⟩
    · rw [Nat.mul_succ, Nat.add_comm, runSteps_add ht, hu]
    · rw [hphase, heffect.phase_toNat h.mode_eq, Nat.mod_add_mod, Nat.add_assoc, Nat.add_comm 1]
    · rw [htrace, heffect.trace_eq, heffect.phase_toNat h.mode_eq, List.append_assoc, flatMap_frames_succ _ n h.phase_lt]

/-- Settles O57: the frames of hue mode. -/
theorem hueFramesInSequence : Obligations.HueFramesInSequence :=
  fun n _ _ hop hm hlt hd hs => runSteps_frames (m := .hue) n ⟨hop, hm, hlt, hd⟩ hs

/-- Settles O58: the frames of phase mode, where every phase is in range. -/
theorem phaseFramesInSequence : Obligations.PhaseFramesInSequence :=
  fun n s _ hop hm hd hs => runSteps_frames (m := .phase) n ⟨hop, hm, s.phase.isLt, hd⟩ hs

end Sys2Proof.Machine

/-! SUPPORT. Proofs for the stores to the PWM sink and the delay of CGC (43_pwm_and_delay.md): the store of a `SETD` and
its refusal, the wait and who ends it, and `HALT`. -/

namespace Sys2Proof.Machine

/-! ### The operations -/

/-- An operation with a lane is that lane's `SETD` (30_encoding.md R66). -/
theorem exec_eq_setd_of_lane {i : Instr} {k : Lane} (hi : i.lane = some k) :
    ∃ succ, ∀ s : State, exec i s = setd k succ s := by
  cases i <;> cases hi
  case setd0 => exact ⟨.setd1, fun _ => rfl⟩
  case setd1 => exact ⟨.setd2, fun _ => rfl⟩
  case setd2 => exact ⟨.advance, fun _ => rfl⟩

/-- A `SETD` of a width above `MAX_DUTY` is refused, whichever its lane (93_implementation_defined.md U7). -/
theorem exec_lane_refused {s : State} {i : Instr} {k : Lane} (hi : i.lane = some k) (hw : 1024 < (s.readW k).toNat) :
    exec i s = .refused .widthAboveMaxDuty := by
  obtain ⟨succ, hsetd⟩ := exec_eq_setd_of_lane hi
  rw [hsetd, setd_refused hw]

/-- Settles O28: an accepted width is stored by the equation of its `SETD`, any other one is refused. -/
theorem setdStoresTheWidth : Obligations.SetdStoresTheWidth :=
  ⟨rfl, rfl, rfl, exec_setd0, exec_setd1, exec_setd2, fun _ _ _ hi hw => exec_lane_refused hi hw⟩

/-- Settles O30: `FRAME_MS` is 5. -/
theorem dlyreqAsksForTheFrameDelay : Obligations.DlyreqAsksForTheFrameDelay := ⟨rfl, exec_dlyreq⟩

/-- Settles O31: the two equations of `DLYWAIT`. -/
theorem dlywaitHoldsWhilePending : Obligations.DlywaitHoldsWhilePending :=
  ⟨rfl, exec_dlywait_done, exec_dlywait_held⟩

/-- Settles O32: `HALT` reads no part of the state. -/
theorem haltIsAFaultOutcome : Obligations.HaltIsAFaultOutcome := ⟨rfl, exec_halt⟩

section Steps
variable {s t : State} {i : Instr}

/-! ### The wait -/

theorem delayAgentStep_pending (h : s.dlyPending = true) : delayAgentStep s = { s with dlyPending := false } :=
  if_pos h

theorem delayAgentStep_not_pending (h : s.dlyPending = false) : delayAgentStep s = s :=
  if_neg (Bool.eq_false_iff.mp h)

/-- Settles O45: the delay agent's turn on the state without that turn, with a wait pending and without one. -/
theorem delayAgentEndsThePendingWait : Obligations.DelayAgentEndsThePendingWait := by
  intro s l hs
  have hpop : s.popTurn = { s with schedule := l } := by rw [State.popTurn, hs, List.tail_cons]
  rw [step_of_delayAgent hs, hpop]
  exact ⟨fun hp => congrArg _ (delayAgentStep_pending hp), fun hp => congrArg _ (delayAgentStep_not_pending hp)⟩

/-- No operation of the sequencer ends a pending wait (10_state.md R25). -/
theorem exec_keeps_pending (h : exec i s = .next t) (hp : s.dlyPending = true) : t.dlyPending = true := by
  cases execMove_of_exec_eq_next h
  case dlyreq => rfl
  all_goals simpa using hp

/-- While a wait is pending, the sequencer is held in `DLYWAIT` (43_pwm_and_delay.md R138). -/
theorem exec_held_in_dlywait (h : exec s.op s = .next t) (hp : s.dlyPending = true) (hop : s.op = .dlywait) :
    t = s := by
  rw [hop, exec_dlywait_held s hp] at h
  injection h with h
  exact h.symm

/-- A step over a pending wait: the reset turn, the delay agent's turn, which keeps `STEP`, or one that keeps the wait
pending and `DLYWAIT` held. -/
theorem step_pending_cases (hp : s.dlyPending = true) (h : step s = .next t) :
    (∃ l, s.schedule = .reset :: l) ∨
    ((∃ l, s.schedule = .delayAgent :: l) ∧ t.op = s.op) ∨
    (t.dlyPending = true ∧ (s.op = .dlywait → t.op = s.op)) := by
  rcases step_next_cases h with ⟨u, hu, rfl, -, -⟩ | ⟨m, l, -, -, rfl⟩ | ⟨l, hl, rfl⟩ | ⟨l, hl, -⟩
  · have hpending : u.dlyPending = true := exec_keeps_pending hu hp
    exact .inr (.inr ⟨hpending, fun hop => by rw [op_popTurn, exec_held_in_dlywait hu hp hop]⟩)
  · exact .inr (.inr ⟨hp, fun _ => op_popTurn s⟩)
  · exact .inr (.inl ⟨⟨l, hl⟩, by simp⟩)
  · exact .inl ⟨l, hl⟩

/-- Settles O46: only the delay agent and reset touch a pending wait, and only reset moves a held sequencer. -/
theorem onlyDelayAgentOrResetEndsTheWait : Obligations.OnlyDelayAgentOrResetEndsTheWait := by
  intro s t hp h
  rcases step_pending_cases hp h with ⟨l, hl⟩ | ⟨⟨l, hl⟩, hop⟩ | ⟨hp', hop⟩
  · exact ⟨fun _ => ⟨l, .inr hl⟩, fun _ _ => ⟨l, hl⟩⟩
  · exact ⟨fun _ => ⟨l, .inl hl⟩, fun hs ht => absurd (hop.trans hs) ht⟩
  · exact ⟨fun hnot => by simp [hp'] at hnot, fun hs ht => absurd ((hop hs).trans hs) ht⟩

/-! ### `HALT` -/

/-- In `HALT` no fault is raised, so a step that leaves it is reset's (60_exceptions.md R157). -/
theorem step_leaves_halt (hs : s.op = .halt) (h : step s = .next t) (ht : t.op ≠ .halt) :
    ∃ l, s.schedule = .reset :: l := by
  rcases step_status_cases h with ⟨c, info, -, hop, -⟩ | ⟨-, -, -, hop⟩ | ⟨l, hl, -⟩
  · simp [hs] at hop
  · exact absurd (hop.mpr hs) ht
  · exact ⟨l, hl⟩

/-- `HALT` is neither a `SETD` nor `DLYREQ`, so a step from it keeps sink and events (43_pwm_and_delay.md R140). -/
theorem step_halt_keeps_sink (hs : s.op = .halt) (h : step s = .next t) : SameChannels s t ∧ t.events = s.events := by
  rcases step_sink_cases h with ⟨k, hk, -, -⟩ | ⟨same, hev⟩
  · simp [hs, Instr.lane] at hk
  · exact ⟨same, hev.resolve_right fun ⟨hop, _⟩ => by simp [hs] at hop⟩

/-- Settles O37: the step's status cases say who leaves `HALT`, its sink cases that nothing is written. -/
theorem onlyResetLeavesHalt : Obligations.OnlyResetLeavesHalt :=
  fun _ _ hs h => ⟨step_leaves_halt hs h, step_halt_keeps_sink hs h⟩

end Steps

end Sys2Proof.Machine

/-! SUPPORT. Proofs for the exceptions of CGC (60_exceptions.md): fault entry, the reserved codes that raise it, and the
two stops of the model. -/

namespace Sys2Proof.Machine

section Exceptions
variable {s t : State} {i : Instr}

/-! ### Fault entry -/

/-- A reserved code raises `ILL_STEP` with the code itself as the record (60_exceptions.md R155, R151). -/
theorem exec_reserved (s : State) (hi : i = .reserved0111 ∨ i = .reserved1011) :
    exec i s = .next (s.raiseFault .illStep (illStepInfo i)) := by
  rcases hi with rfl | rfl
  · exact exec_reserved0111 s
  · exact exec_reserved1011 s

/-- Settles O33: `STEP` is the code of the operation it names, so the record of a reserved code is `STEP` itself. -/
theorem reservedCodesRaiseIllStep : Obligations.ReservedCodesRaiseIllStep := by
  refine ⟨rfl, rfl, exec_reserved0111, exec_reserved1011, fun s hs => ?_⟩
  have hop : decode s.stepReg = .reserved0111 ∨ decode s.stepReg = .reserved1011 :=
    hs.imp decode_eq_iff.mpr decode_eq_iff.mpr
  rw [exec_reserved s hop, illStepInfo, encode_decode]
  rfl

/-- An operation that sets `FAULT` is `CONVERT` or a reserved code, and what it did is fault entry (60_exceptions.md R150,
R156). -/
theorem exec_sets_fault (h : exec i s = .next t) (hs : s.fault = false) (ht : t.fault = true) :
    (i = .convert ∨ i = .reserved0111 ∨ i = .reserved1011) ∧ ∃ c info, c ≠ .none ∧ t = s.raiseFault c info := by
  cases execMove_of_exec_eq_next h
  case convertErr err => exact ⟨.inl rfl, _, _, convert_err_cause err, rfl⟩
  case reserved0111 => exact ⟨.inr (.inl rfl), .illStep, 7, by decide, rfl⟩
  case reserved1011 => exact ⟨.inr (.inr rfl), .illStep, 11, by decide, rfl⟩
  all_goals simp [hs] at ht

/-- Settles O34: an operation that sets `FAULT` ends in fault entry, whose four writes are the equation. -/
theorem faultEntryMakesFourWrites : Obligations.FaultEntryMakesFourWrites := by
  refine ⟨fun _ _ _ => rfl, fun i s t h hs ht => ?_⟩
  obtain ⟨hi, c, info, hc, rfl⟩ := exec_sets_fault h hs ht
  exact ⟨hi, rfl, hc⟩

/-! ### The two stops -/

/-- The sequencer's turn goes on as its operation does (`exec_next_or_stop`). -/
theorem sequencerTurn_next_or_stop (s : State) :
    (∃ t, sequencerTurn s = .next t) ∨ (s.op = .halt ∧ sequencerTurn s = .fault .halted) ∨
    (∃ k, s.op.lane = some k ∧ 1024 < (s.readW k).toNat ∧ sequencerTurn s = .refused .widthAboveMaxDuty) := by
  rcases exec_next_or_stop s s.op with ⟨u, hu⟩ | hop | ⟨k, hk, hw, href⟩
  · exact .inl ⟨u.popTurn, by rw [sequencerTurn, hu, endTurn_next]⟩
  · exact .inr (.inl ⟨hop, by rw [sequencerTurn, hop, exec_halt, endTurn_fault]⟩)
  · exact .inr (.inr ⟨k, hk, hw, by rw [sequencerTurn, href, endTurn]⟩)

/-- In `IDLE` the sequencer's turn goes on: it is neither `HALT` nor a `SETD`. -/
theorem sequencerTurn_next_of_idle (hop : s.op = .idle) : ∃ t, sequencerTurn s = .next t := by
  rcases sequencerTurn_next_or_stop s with next | ⟨hhalt, -⟩ | ⟨k, hk, -⟩
  · exact next
  · simp [hop] at hhalt
  · simp [hop, Instr.lane] at hk

/-- The turn of a `Start` goes on, consumed by `IDLE` or ignored (42_frame_sequencer.md R116). -/
theorem step_next_of_start {m : Mode} {l : List Turn} (hs : s.schedule = .start m :: l) : ∃ t, step s = .next t := by
  rw [step_of_start hs]
  split_ifs with hop
  · exact sequencerTurn_next_of_idle hop
  · exact ⟨_, rfl⟩

/-- Settles O38: the turns of the other agents go on, and the sequencer's stops with its operation. -/
theorem onlyHaltAndIllegalWidthsStop : Obligations.OnlyHaltAndIllegalWidthsStop := by
  intro s
  cases hs : s.schedule with
  | nil =>
    rw [step_of_empty hs]
    exact (sequencerTurn_next_or_stop s).imp_right fun stop => ⟨.inl rfl, stop⟩
  | cons turn l =>
    cases turn with
    | sequencer =>
      rw [step_of_sequencer hs]
      exact (sequencerTurn_next_or_stop s).imp_right fun stop => ⟨.inr ⟨l, rfl⟩, stop⟩
    | delayAgent => exact .inl ⟨_, step_of_delayAgent hs⟩
    | start m => exact .inl (step_next_of_start hs)
    | reset => exact .inl ⟨_, step_of_reset hs⟩

end Exceptions

end Sys2Proof.Machine

/-! SUPPORT. Proofs for reset in CGC (70_reset_and_hazards.md): what the reset turn restores and what it keeps. -/

namespace Sys2Proof.Machine

/-- `IDLE` is operation 0000 (30_encoding.md R62), the reset value of `STEP`. -/
theorem encode_idle : encode .idle = 0b0000#4 := rfl

/-- Settles O44: the turn's next state is the reset action after the turn is taken off, whatever the state before. -/
theorem resetTurnRestoresTheResetValues : Obligations.ResetTurnRestoresTheResetValues := by
  intro s l hs
  have hkept : ∀ c, (resetAction s.popTurn).readCh c = s.readCh c := fun c => by
    rw [readCh_resetAction, readCh_popTurn]
  have hturn : (resetAction s.popTurn).schedule = l := by
    rw [resetAction_schedule, popTurn_schedule, hs, List.tail_cons]
  exact ⟨resetAction s.popTurn, step_of_reset hs, encode_idle, rfl, rfl, rfl, rfl, rfl, rfl, rfl, hkept, rfl, hturn⟩

end Sys2Proof.Machine
